-- ==== Sys2Proof/Word.lean ====
section
/-! DEFINITION. The words of the BAMCORE register bus: data, address, transaction word (20_memory.md R56, R58;
30_encoding.md R73) and the 16-bit intensity (00_scope.md glossary). -/

namespace Sys2Proof

/-- A 32-bit bus word (R58); it also holds a slice word, a pin mask, the port and the timer, zero-extended. -/
abbrev Data := BitVec 32

/-- A 12-bit byte address of the register space (R56). -/
abbrev Addr := BitVec 12

/-- A 45-bit transaction word `{W, A[11:0], D[31:0]}` (R73). -/
abbrev Txn := BitVec 45

/-- A 16-bit intensity, staged or corrected (R29, R85). -/
abbrev Intensity := BitVec 16

end Sys2Proof
end

