-- ==== Sys2Proof/Syntax.lean ====
section
/-! DEFINITION. The 22 transactions of 30_encoding.md R76, one constructor per row of opcode_table.json, with the
operands of R74, R75 and R83. -/

namespace Sys2Proof

/-- One host bus transaction (00_scope.md R3). A data operand is the whole of D, because R79 lets the host set the
bits a rule ignores; a read has no data operand (R74). -/
inductive Instr where
  /-- CTRL_WR v (43_sweep.md R137). -/
  | ctrlWr (d : Data)
  /-- CTRL_RD (R138). -/
  | ctrlRd
  /-- STATUS_RD (42_swap.md R119). -/
  | statusRd
  /-- FLIP (R108): a CMD write with D[0] = 1; D[31:1] is ignored and is no operand (R83). -/
  | flip
  /-- CMD_NOP v (R114): a CMD write with D[0] = 0. -/
  | cmdNop (d : Data)
  /-- LUTIN_WR v (40_lut.md R94). -/
  | lutinWr (d : Data)
  /-- LUTIN_RD (R95). -/
  | lutinRd
  /-- LUTOUT_RD (R96). -/
  | lutoutRd
  /-- CONFIG0_RD (44_register_access.md R147). -/
  | config0Rd
  /-- CONFIG1_RD (R148). -/
  | config1Rd
  /-- CONFIG2_RD (R149). -/
  | config2Rd
  /-- SEQ_RD (43_sweep.md R139). -/
  | seqRd
  /-- TCNT_RD (R140). -/
  | tcntRd
  /-- TMATCH_RD (R141). -/
  | tmatchRd
  /-- PORTOUT_RD (R142). -/
  | portoutRd
  /-- INT_WR c, v (44_register_access.md R144): channel `c = A[6:2]`, data D. -/
  | intWr (c : BitVec 5) (d : Data)
  /-- INT_RD c (R145). -/
  | intRd (c : BitVec 5)
  /-- BUF_RD b, i (42_swap.md R120): buffer `b = A[6]`, slice `i = A[5:2]`. -/
  | bufRd (b : Bool) (i : BitVec 4)
  /-- PINMASK_RD c (44_register_access.md R150). -/
  | pinmaskRd (c : BitVec 5)
  /-- LUTNODE_RD k (40_lut.md R97): node `k = A[6:2]`. -/
  | lutnodeRd (k : BitVec 5)
  /-- RSV_RD a (44_register_access.md R151): the address of the word slot read. -/
  | rsvRd (a : Addr)
  /-- RSV_WR a, v (R152): the address of the word slot written and D. -/
  | rsvWr (a : Addr) (d : Data)
deriving DecidableEq, Repr

end Sys2Proof
end

