-- ==== Sys2Proof/WellFormed.lean ====
section
/-! DEFINITION. Which terms of `Instr` are transactions of 30_encoding.md R76: every one of the first twenty rows with any
operands, but CMD_NOP whose data must have D[0] = 0, and the reserved forms, whose address must be a word slot
no earlier row takes (R77, R78). -/

namespace Sys2Proof

/-- The slot address lies in a window of `INTENSITY`, `BUF0`/`BUF1`, `PINMASK` or `LUTNODE` (20_memory.md R62). -/
def inWindow (a : Addr) : Bool :=
  (0x080 ≤ a && a ≤ 0x0FC) || (0x100 ≤ a && a ≤ 0x17C) || (0x200 ≤ a && a ≤ 0x27C) || (0x300 ≤ a && a ≤ 0x37C)

/-- The reserved slots of R77: 0x030 to 0x07C, 0x180 to 0x1FC, 0x280 to 0x2FC, 0x380 to 0xFFC. -/
def inReservedRange (a : Addr) : Bool :=
  (0x030 ≤ a && a ≤ 0x07C) || (0x180 ≤ a && a ≤ 0x1FC) || (0x280 ≤ a && a ≤ 0x2FC) || (0x380 ≤ a && a ≤ 0xFFC)

/-- `a` is the byte address of a word slot: `a[1:0] = 0` (20_memory.md R56). -/
def isSlot (a : Addr) : Bool := a &&& 3 == 0

/-- A slot whose read is RSV_RD: reserved (R77) or the write-only CMD at 0x008 (R78). -/
def isReservedRead (a : Addr) : Bool := isSlot a && (inReservedRange a || a == 0x008)

/-- A slot whose write is RSV_WR: reserved (R77) or a read-only register (R78): STATUS, LUT_OUT, CONFIG0 to
CONFIG2, SEQ, TCNT, TMATCH, PORTOUT, BUF0, BUF1, PINMASK, LUTNODE. -/
def isReservedWrite (a : Addr) : Bool :=
  isSlot a && (inReservedRange a || a == 0x004 || (0x010 ≤ a && a ≤ 0x02C) || (0x100 ≤ a && inWindow a))

/-- The checks a term of `Instr` must pass to be a transaction of R76. -/
def Instr.wellFormed : Instr → Bool
  | .cmdNop d => d.getLsbD 0 == false
  | .rsvRd a => isReservedRead a
  | .rsvWr a _ => isReservedWrite a
  | .ctrlWr _ | .ctrlRd | .statusRd | .flip | .lutinWr _ | .lutinRd | .lutoutRd | .config0Rd | .config1Rd
  | .config2Rd | .seqRd | .tcntRd | .tmatchRd | .portoutRd | .intWr _ _ | .intRd _ | .bufRd _ _
  | .pinmaskRd _ | .lutnodeRd _ => true

end Sys2Proof
end

