-- ==== Sys2Proof/Decode.lean ====
section
/-! DEFINITION. The transaction word and its decoding by the table of 30_encoding.md R76 (first match in order), then the
encoder. A 45-bit word always decodes (R76); a number that is no 45-bit word is refused by name. -/

namespace Sys2Proof

/-- The transaction word `{W, A[11:0], D[31:0]}` of R73. -/
def txnWord (we : Bool) (a : Addr) (d : Data) : Txn := BitVec.ofBool we ++ a ++ d

/-- The byte address A = TXN[43:32] (R73). -/
def txnAddr (w : Txn) : Addr := w.extractLsb' 32 12

/-- The address of the word slot acted on, `A & 0xFFC` (20_memory.md R59). -/
def txnSlot (w : Txn) : Addr := txnAddr w &&& 0xFFC

/-- The write data D = TXN[31:0] (R73). -/
def txnData (w : Txn) : Data := w.extractLsb' 0 32

/-- The index operand A[6:2] = TXN[38:34] (R75): channel or node. -/
def txnIndex (w : Txn) : BitVec 5 := w.extractLsb' 34 5

/-- The buffer operand b = A[6] = TXN[38] (R75). -/
def txnBuffer (w : Txn) : Bool := w.getLsbD 38

/-- The slice operand i = A[5:2] = TXN[37:34] (R75). -/
def txnSlice (w : Txn) : BitVec 4 := w.extractLsb' 34 4

/-- One row of the decode table of R76. -/
structure DecodeRow where
  mnemonic : String
  hit : Txn
  mask : Txn
  build : Txn → Instr

/-- The word belongs to the row: `TXN & mask = match` (R76). -/
def DecodeRow.takes (row : DecodeRow) (w : Txn) : Bool := w &&& row.mask == row.hit

/-- Rows 1 to 20 of R76: the control, status and window registers. -/
def registerRows : List DecodeRow := [
  ⟨"CTRL_WR",    0x100000000000, 0x1FFC00000000, fun w => .ctrlWr (txnData w)⟩,
  ⟨"CTRL_RD",    0x000000000000, 0x1FFC00000000, fun _ => .ctrlRd⟩,
  ⟨"STATUS_RD",  0x000400000000, 0x1FFC00000000, fun _ => .statusRd⟩,
  ⟨"FLIP",       0x100800000001, 0x1FFC00000001, fun _ => .flip⟩,
  ⟨"CMD_NOP",    0x100800000000, 0x1FFC00000001, fun w => .cmdNop (txnData w)⟩,
  ⟨"LUTIN_WR",   0x100C00000000, 0x1FFC00000000, fun w => .lutinWr (txnData w)⟩,
  ⟨"LUTIN_RD",   0x000C00000000, 0x1FFC00000000, fun _ => .lutinRd⟩,
  ⟨"LUTOUT_RD",  0x001000000000, 0x1FFC00000000, fun _ => .lutoutRd⟩,
  ⟨"CONFIG0_RD", 0x001400000000, 0x1FFC00000000, fun _ => .config0Rd⟩,
  ⟨"CONFIG1_RD", 0x001800000000, 0x1FFC00000000, fun _ => .config1Rd⟩,
  ⟨"CONFIG2_RD", 0x001C00000000, 0x1FFC00000000, fun _ => .config2Rd⟩,
  ⟨"SEQ_RD",     0x002000000000, 0x1FFC00000000, fun _ => .seqRd⟩,
  ⟨"TCNT_RD",    0x002400000000, 0x1FFC00000000, fun _ => .tcntRd⟩,
  ⟨"TMATCH_RD",  0x002800000000, 0x1FFC00000000, fun _ => .tmatchRd⟩,
  ⟨"PORTOUT_RD", 0x002C00000000, 0x1FFC00000000, fun _ => .portoutRd⟩,
  ⟨"INT_WR",     0x108000000000, 0x1F8000000000, fun w => .intWr (txnIndex w) (txnData w)⟩,
  ⟨"INT_RD",     0x008000000000, 0x1F8000000000, fun w => .intRd (txnIndex w)⟩,
  ⟨"BUF_RD",     0x010000000000, 0x1F8000000000, fun w => .bufRd (txnBuffer w) (txnSlice w)⟩,
  ⟨"PINMASK_RD", 0x020000000000, 0x1F8000000000, fun w => .pinmaskRd (txnIndex w)⟩,
  ⟨"LUTNODE_RD", 0x030000000000, 0x1F8000000000, fun w => .lutnodeRd (txnIndex w)⟩]

/-- Row 21 of R76, RSV_RD: a read no earlier row takes. Its address operand is the slot's (R59). -/
def rsvRdRow : DecodeRow := ⟨"RSV_RD", 0x000000000000, 0x100000000000, fun w => .rsvRd (txnSlot w)⟩

/-- Row 22 of R76, RSV_WR: a write no earlier row takes. -/
def rsvWrRow : DecodeRow :=
  ⟨"RSV_WR", 0x100000000000, 0x100000000000, fun w => .rsvWr (txnSlot w) (txnData w)⟩

/-- The whole table of R76, in its order. -/
def decodeTable : List DecodeRow := registerRows ++ [rsvRdRow, rsvWrRow]

/-- Decode a transaction word (R76): the first row that takes it. The last two rows take every word, so the second
arm is never reached; it gives RSV_WR's reading. -/
def decode (w : Txn) : Instr :=
  match decodeTable.find? (·.takes w) with
  | some row => row.build w
  | none => rsvWrRow.build w

/-- Why a number is no transaction: it has a bit above bit 44, and the word has 45 bits (R73, R81). -/
inductive DecodeRefusal where
  | notATransactionWord
deriving DecidableEq, Repr

/-- Decode a number taken as the bits of a transaction, or refuse it by name. -/
def decodeNumber (w : Nat) : Except DecodeRefusal Instr :=
  if w < 2 ^ 45 then .ok (decode (BitVec.ofNat 45 w)) else .error .notATransactionWord

/-- The host's question on a row of opcode_table.json: a transaction is one 45-bit word with no byte order (R58, R81),
numbered as the table numbers it, so the word is the number itself (notes/assumptions/10.md). -/
def decodeTableWord (_nbits w : Nat) : Option Instr :=
  match decodeNumber w with
  | .ok i => some i
  | .error _ => none

/-- The address of word `k` of the window that starts at `base`: `base + 4k` (10_state.md R51 to R54). -/
def windowAddr (base : Addr) (k : BitVec 5) : Addr := base ||| (k ++ 0#2).setWidth 12

/-- The canonical transaction word of an instruction (R74: a read has D = 0; R108: FLIP has D = 1). -/
def encode : Instr → Txn
  | .ctrlWr d => txnWord true 0x000 d
  | .ctrlRd => txnWord false 0x000 0
  | .statusRd => txnWord false 0x004 0
  | .flip => txnWord true 0x008 1
  | .cmdNop d => txnWord true 0x008 d
  | .lutinWr d => txnWord true 0x00C d
  | .lutinRd => txnWord false 0x00C 0
  | .lutoutRd => txnWord false 0x010 0
  | .config0Rd => txnWord false 0x014 0
  | .config1Rd => txnWord false 0x018 0
  | .config2Rd => txnWord false 0x01C 0
  | .seqRd => txnWord false 0x020 0
  | .tcntRd => txnWord false 0x024 0
  | .tmatchRd => txnWord false 0x028 0
  | .portoutRd => txnWord false 0x02C 0
  | .intWr c d => txnWord true (windowAddr 0x080 c) d
  | .intRd c => txnWord false (windowAddr 0x080 c) 0
  | .bufRd b i => txnWord false (windowAddr 0x100 (BitVec.ofBool b ++ i)) 0
  | .pinmaskRd c => txnWord false (windowAddr 0x200 c) 0
  | .lutnodeRd k => txnWord false (windowAddr 0x300 k) 0
  | .rsvRd a => txnWord false a 0
  | .rsvWr a d => txnWord true a d

end Sys2Proof
end

