-- ==== Sys2Proof/Config.lean ====
section
/-! DEFINITION. The implementation parameters of 00_scope.md R8 to R19, fixed when the block is built. The spec leaves no
RESULT open, so there is no opaque free value here: what it leaves open are these parameters, and the state
carries them (notes/assumptions/1.md), so that every statement about all states is about every configuration. -/

namespace Sys2Proof

/-- `SWEEP_MODE` (R15). -/
inductive SweepMode where
  | uni
  | bidi
deriving DecidableEq, Repr

/-- `SWAP_POLICY` (R16): what a swap request does while a swap is pending. -/
inductive SwapPolicy where
  | supersede
  | ignore
  | toggle
  | wait
deriving DecidableEq, Repr

/-- The parameters that are numbers (R8 to R14, R18, R19). An array is a list: its entries beyond the list's
end are 0 (notes/assumptions/8.md), and those beyond the array's last index are not read. -/
structure NumParams where
  /-- `R`, resolution (R8). -/
  r : Nat
  /-- `N`, channel count (R9). -/
  n : Nat
  /-- `PORT_WIDTH` (R10). -/
  portWidth : Nat
  /-- `PIN_MASK[c]` (R11). -/
  pinMask : List Nat
  /-- `MIN_EXP` (R12). -/
  minExp : Nat
  /-- `PERIOD_FLOOR` (R13). -/
  periodFloor : Nat
  /-- `CNT_WIDTH` (R14). -/
  cntWidth : Nat
  /-- `LUT_BASE[k]` (R18). -/
  lutBase : List Nat
  /-- `LUT_SLOPE[k]` (R18). -/
  lutSlope : List Nat
  /-- `LUT_SHIFT` (R19). -/
  lutShift : Nat
deriving DecidableEq, Repr

/-- The parameters of one block, the enumerated ones (R15, R16, R17) as names. -/
structure Config extends NumParams where
  sweepMode : SweepMode
  swapPolicy : SwapPolicy
  /-- `ACTIVE_LOW` (R17). -/
  activeLow : Bool
deriving DecidableEq, Repr

/-- The parameters as they are handed to a build, the enumerated ones as numbers (the codes of CONFIG0, R44),
so that a value outside its set can be written and refused (CHK_ENUM of R21; notes/assumptions/6.md). -/
structure RawConfig extends NumParams where
  sweepMode : Nat
  swapPolicy : Nat
  activeLow : Nat
deriving DecidableEq, Repr

/-- The named checks of R21; `ConfigError(check)` names one of them (R158). -/
inductive ConfigCheck where
  | chkR
  | chkPort
  | chkN
  | chkPins
  | chkMinExp
  | chkFloor
  | chkCnt
  | chkShift
  | chkLutRange
  | chkLutMono
  | chkEnum
deriving DecidableEq, Repr

/-- `LUT_BASE[k] = 2048k`, the bases of the identity table (40_lut.md R89). -/
def identityBase : List Nat := (List.range 32).map (2048 * ·)

/-- `LUT_SLOPE[k] = 1 << LUT_SHIFT`, the slopes of the identity table (R89). -/
def identitySlope (shift : Nat) : List Nat := List.replicate 32 (2 ^ shift)

/-- The default parameters (00_scope.md section 4, D31 of 92_eei_decisions.md) with the identity table of R89, which
95_test_vectors.md uses. The table is an OPEN parameter (R18): the identity table here is the model's
DESIGN CHOICE (notes/assumptions/2.md), and no statement rests on it. -/
def Config.default : Config :=
  { r := 8, n := 8, portWidth := 32, pinMask := (List.range 8).map (2 ^ ·), minExp := 2, periodFloor := 4,
    cntWidth := 32, lutBase := identityBase, lutSlope := identitySlope 10, lutShift := 10,
    sweepMode := .uni, swapPolicy := .supersede, activeLow := false }

end Sys2Proof
end

