-- ==== Sys2Proof/Machine/Params.lean ====
section
/-! DEFINITION. The constants derived from the parameters (00_scope.md R20) and the configuration checks (R21, in the order
of 60_exceptions.md R158). -/

namespace Sys2Proof

/-! ### The arrays of parameters -/

/-- `PIN_MASK[c]` as a number (R11). -/
def NumParams.pinMaskNat (p : NumParams) (c : Nat) : Nat := p.pinMask.getD c 0

/-- `PIN_MASK[c]` as a port word (R11). -/
def NumParams.pinMaskAt (p : NumParams) (c : Nat) : Data := BitVec.ofNat 32 (p.pinMaskNat c)

/-- `LUT_BASE[k]` (R18). -/
def NumParams.lutBaseAt (p : NumParams) (k : Nat) : Nat := p.lutBase.getD k 0

/-- `LUT_SLOPE[k]` (R18). -/
def NumParams.lutSlopeAt (p : NumParams) (k : Nat) : Nat := p.lutSlope.getD k 0

/-! ### Derived constants (R20) -/

/-- The bitwise OR of a list of words. -/
def orAll : List Data → Data
  | [] => 0
  | w :: ws => w ||| orAll ws

/-- `M = 1 << MIN_EXP` timer ticks, the quantum (R12, R20). -/
def NumParams.quantum (p : NumParams) : Nat := 1 <<< p.minExp

/-- `CHAN_PINS = PIN_MASK[0] | ... | PIN_MASK[N-1]` (R20). -/
def NumParams.chanPins (p : NumParams) : Data := orAll ((List.range p.n).map p.pinMaskAt)

/-- `INACTIVE`, the port value with every channel off (R20). -/
def Config.inactive (c : Config) : Data := if c.activeLow then c.chanPins else 0

/-- `period(i) = max(M << i, PERIOD_FLOOR)` timer ticks (R20, 43_sweep.md R124). -/
def NumParams.period (p : NumParams) (i : Nat) : Nat := max (p.quantum <<< i) p.periodFloor

/-- `PMAX = period(R-1)`, the longest period (R20). -/
def NumParams.pmax (p : NumParams) : Nat := p.period (p.r - 1)

/-! ### The codes of the enumerated parameters (10_state.md R44) -/

def SweepMode.code : SweepMode → Nat
  | .uni => 0
  | .bidi => 1

def SwapPolicy.code : SwapPolicy → Nat
  | .supersede => 0
  | .ignore => 1
  | .toggle => 2
  | .wait => 3

/-- The sweep mode with this code, if there is one (CHK_ENUM of R21). -/
def SweepMode.ofCode? : Nat → Option SweepMode
  | 0 => some .uni
  | 1 => some .bidi
  | _ => none

/-- The swap policy with this code, if there is one (CHK_ENUM of R21). -/
def SwapPolicy.ofCode? : Nat → Option SwapPolicy
  | 0 => some .supersede
  | 1 => some .ignore
  | 2 => some .toggle
  | 3 => some .wait
  | _ => none

/-- `ACTIVE_LOW in {0, 1}` (CHK_ENUM of R21). -/
def activeLowOfCode? : Nat → Option Bool
  | 0 => some false
  | 1 => some true
  | _ => none

/-! ### The function of the lookup table on numbers -/

/-- `LUT_BASE[k] + ((LUT_SLOPE[k] * off) >> LUT_SHIFT)`, an unbounded natural (40_lut.md R85). -/
def NumParams.lutSum (p : NumParams) (k off : Nat) : Nat :=
  p.lutBaseAt k + ((p.lutSlopeAt k * off) >>> p.lutShift)

/-- `sat16(v) = min(v, 0xFFFF)` (R22). -/
def sat16 (v : Nat) : Nat := min v 0xFFFF

/-! ### The checks of R21 -/

/-- No two channels below `N` share a pin (CHK_PINS). -/
def NumParams.masksDisjoint (p : NumParams) : Bool :=
  (List.range p.n).all fun c => (List.range p.n).all fun d => c == d || p.pinMaskNat c &&& p.pinMaskNat d == 0

/-- The condition of each check of R21 on the numeric parameters; CHK_ENUM concerns the enumerated ones only. -/
def NumParams.passes (p : NumParams) : ConfigCheck → Bool
  | .chkR => 1 ≤ p.r && p.r ≤ 16
  | .chkPort => 1 ≤ p.portWidth && p.portWidth ≤ 32
  | .chkN => 1 ≤ p.n && p.n ≤ p.portWidth
  | .chkPins =>
    ((List.range p.n).all fun c => p.pinMaskNat c != 0 && p.pinMaskNat c < 2 ^ p.portWidth) && p.masksDisjoint
  | .chkMinExp => p.minExp ≤ 31
  | .chkFloor => 1 ≤ p.periodFloor && p.periodFloor ≤ 2 ^ 32 - 1
  | .chkCnt => 1 ≤ p.cntWidth && p.cntWidth ≤ 32 && p.pmax ≤ 2 ^ p.cntWidth
  | .chkShift => p.lutShift ≤ 15
  | .chkLutRange => (List.range 32).all fun k => p.lutBaseAt k ≤ 65535 && p.lutSlopeAt k ≤ 65535
  | .chkLutMono => (List.range 31).all fun k => sat16 (p.lutSum k 2047) ≤ p.lutBaseAt (k + 1)
  | .chkEnum => true

/-- The order in which the checks are made (60_exceptions.md R158). -/
def checkOrder : List ConfigCheck :=
  [.chkR, .chkPort, .chkN, .chkPins, .chkMinExp, .chkFloor, .chkCnt, .chkShift, .chkLutRange, .chkLutMono, .chkEnum]

/-- The first check the numeric parameters fail, in the order of R158. -/
def NumParams.firstFailure (p : NumParams) : Option ConfigCheck := checkOrder.find? fun k => !p.passes k

/-- The configuration is admitted: every check of R21 holds. -/
abbrev NumParams.Admitted (p : NumParams) : Prop := p.firstFailure = none

/-- Build a configuration from its parameters, or `ConfigError(check)` with the first failing check (R21, R158).
CHK_ENUM is the last check of that order. -/
def RawConfig.build (p : RawConfig) : Except ConfigCheck Config :=
  match p.toNumParams.firstFailure with
  | some k => .error k
  | none =>
    match SweepMode.ofCode? p.sweepMode, SwapPolicy.ofCode? p.swapPolicy, activeLowOfCode? p.activeLow with
    | some mode, some policy, some low =>
      .ok { toNumParams := p.toNumParams, sweepMode := mode, swapPolicy := policy, activeLow := low }
    | _, _, _ => .error .chkEnum

end Sys2Proof
end

