-- ==== Sys2Proof/Machine/State.lean ====
section
/-! DEFINITION. The state of BAMCORE: the fields of 10_state.md R28, the output ports of R25, and the model's own two
fields (the configuration and the inputs to come). -/

namespace Sys2Proof.Machine

/-- The sweep direction, 0 = UP, 1 = DOWN (R34). -/
inductive Dir where
  | up
  | down
deriving DecidableEq, Repr

/-- The inputs sampled at one rising edge of `clk` (R25). -/
structure CycleInput where
  rst : Bool
  tickEn : Bool
  req : Bool
  we : Bool
  addr : Addr
  wdata : Data
deriving DecidableEq, Repr

/-- A cycle in which nothing is presented: no reset, no tick, no transaction. -/
def idleCycle : CycleInput := ⟨false, false, false, false, 0, 0⟩

/-- The state before a clock edge. A 1-bit buffer index is a Bool, `true` = 1 (buffer B). A PORT_WIDTH-bit or
CNT_WIDTH-bit field is held in 32 bits, zero-extended (notes/assumptions/7.md). -/
structure State where
  /-- The parameters; no step writes them (R28; notes/assumptions/1.md). -/
  cfg : Config
  /-- `EN` (R37). -/
  en : Bool
  /-- `INT[0..N-1]` (R29). -/
  intensity : List Intensity
  /-- `BUF[0][0..R-1]`, buffer A (R30). -/
  buf0 : List Data
  /-- `BUF[1][0..R-1]`, buffer B (R30). -/
  buf1 : List Data
  /-- `in_use`, the index of the active buffer (R32). -/
  inUse : Bool
  /-- `queued`, the index of the buffer requested for adoption (R32). -/
  queued : Bool
  /-- `s`, the index of the slice the next expiry outputs (R34). -/
  slice : BitVec 4
  /-- `dir` (R34). -/
  dir : Dir
  /-- `cnt`, the timer counter (R35). -/
  cnt : BitVec 32
  /-- `match`, the timer match register (R35). -/
  matchReg : BitVec 32
  /-- `pwm_out`, the output register that drives the port (R36). -/
  pwmOut : Data
  /-- `LUT_IN` (R42). -/
  lutIn : Intensity
  /-- The output port `ready` of the edge just passed (R25; notes/assumptions/5.md). -/
  ready : Bool
  /-- The output port `rdata` of the edge just passed (R25; notes/assumptions/5.md). -/
  rdata : Data
  /-- The inputs of the coming edges, the next one first; after the last one the cycles are idle
  (notes/assumptions/3.md). -/
  inputs : List CycleInput
deriving DecidableEq, Repr

/-- What stops the machine. No transaction, tick or expiry does (60_exceptions.md R157). -/
inductive Fault where
  /-- `ConfigError(check)` (R158): raised by `step` alone, when the state carries a configuration that fails a check of
  00_scope.md R21; `check` is the first one that fails. Safe: the spec admits no state with such a configuration. -/
  | configError (check : ConfigCheck)
deriving DecidableEq, Repr

/-- Why an instruction has no meaning in this model. -/
inductive Refusal where
  /-- Raised by an arm of `exec` for an instruction not modelled yet. Safe. No arm of this model raises it. -/
  | notModelled (mnemonic : String)
deriving DecidableEq, Repr

/-- `RESET_STATE` of 10_state.md R55 for a configuration, after the required reset cycle (70_reset_and_hazards.md R175): the outputs
are those of that cycle, `ready = 0`, `rdata = 0` (20_memory.md R64). -/
def State.resetFor (c : Config) : State :=
  { cfg := c, en := false, intensity := List.replicate c.n 0, buf0 := List.replicate c.r 0,
    buf1 := List.replicate c.r 0, inUse := false, queued := false, slice := 0, dir := .up, cnt := 0,
    matchReg := 0, pwmOut := c.inactive, lutIn := 0, ready := false, rdata := 0, inputs := [] }

/-- The machine right after reset, built with the default parameters (notes/assumptions/2.md). -/
def State.reset : State := State.resetFor Config.default

end Sys2Proof.Machine
end

