-- ==== Sys2Proof/Machine/Operands.lean ====
section
/-! DEFINITION. The operand forms: the bits of D a write uses (30_encoding.md R74, R79), the indexed registers
(R75) with their read value 0 at or above the configured count, and values written to a field of CNT_WIDTH bits. -/

namespace Sys2Proof.Machine

/-- D[15:0], the bits LUTIN_WR and INT_WR use (40_lut.md R94, 44_register_access.md R144). -/
def dataLow16 (d : Data) : Intensity := d.setWidth 16

/-- D[0], the bit CTRL_WR uses (43_sweep.md R137). -/
def dataBit0 (d : Data) : Bool := d.getLsbD 0

/-- `zext_32` of a 16-bit value (00_scope.md R22). -/
def zext32 (v : Intensity) : Data := v.setWidth 32

/-- A natural written to a field of CNT_WIDTH bits (10_state.md R35). In every reachable state of an admitted
configuration it fits (43_sweep.md R124, R125; notes/assumptions/7.md). -/
def toCntWidth (c : Config) (v : Nat) : BitVec 32 := BitVec.ofNat 32 (v % 2 ^ c.cntWidth)

/-- `BUF[b]` (R30). -/
def State.buf (s : State) (b : Bool) : List Data := if b then s.buf1 else s.buf0

/-- `BUF[b][i]` (R30). -/
def State.bufAt (s : State) (b : Bool) (i : Nat) : Data := (s.buf b).getD i 0

/-- `INT[c]` (R29). -/
def State.intensityAt (s : State) (c : Nat) : Intensity := s.intensity.getD c 0

/-- The read value of INTENSITY[c]: `INT[c]` for c < N, else 0 (R51, 44_register_access.md R145). -/
def State.intensityWord (s : State) (c : BitVec 5) : Data :=
  if c.toNat < s.cfg.n then zext32 (s.intensityAt c.toNat) else 0

/-- The read value of BUFb[i]: the slice word for i < R, else 0 (R52, 42_swap.md R120). -/
def State.bufWord (s : State) (b : Bool) (i : BitVec 4) : Data :=
  if i.toNat < s.cfg.r then s.bufAt b i.toNat else 0

/-- The read value of PINMASK[c]: the mask for c < N, else 0 (R53, 44_register_access.md R150). -/
def pinMaskWord (p : Config) (c : BitVec 5) : Data := if c.toNat < p.n then p.pinMaskAt c.toNat else 0

/-- The read value of LUTNODE[k]: `{LUT_SLOPE[k][15:0], LUT_BASE[k][15:0]}` (R54, 40_lut.md R97). -/
def lutNodeWord (p : Config) (k : BitVec 5) : Data :=
  BitVec.ofNat 16 (p.lutSlopeAt k.toNat) ++ BitVec.ofNat 16 (p.lutBaseAt k.toNat)

end Sys2Proof.Machine
end

