-- ==== Sys2Proof/Machine/Encoder.lean ====
section
/-! DEFINITION. The two pure functions of BAMCORE: the lookup-table correction `correct` (40_lut.md R85) and the BAM encoder
(41_encoder.md R98). -/

namespace Sys2Proof.Machine

/-- `correct(x)` (R85): node `k = x[15:11]`, offset `off = x[10:0]`, saturated to 16 bits (R87, R88). -/
def correct (c : Config) (x : Intensity) : Intensity :=
  BitVec.ofNat 16 (sat16 (c.lutSum (x.extractLsb' 11 5).toNat (x.extractLsb' 0 11).toNat))

/-- Channel with staged intensity `x` is on in slice `i`: bit `16 - R + i` of its corrected intensity (R98, R100). -/
def channelOn (c : Config) (x : Intensity) (i : Nat) : Bool := (correct c x).getLsbD (16 - c.r + i)

/-- Slice `i` of a frame: the OR of the pin masks of the channels that are on in it (R98, R99). -/
def sliceWord (c : Config) (ints : List Intensity) (i : Nat) : Data :=
  orAll ((List.range c.n).map fun ch => if channelOn c (ints.getD ch 0) i then c.pinMaskAt ch else 0)

/-- `encode(INT)`: the R slice words of a frame (R98). -/
def encodeFrame (c : Config) (ints : List Intensity) : List Data := (List.range c.r).map (sliceWord c ints)

end Sys2Proof.Machine
end

