-- ==== Sys2Proof/Machine/Flags.lean ====
section
/-! DEFINITION. The status flag and the words computed from the state or the configuration when they are read: STATUS, SEQ,
CTRL and CONFIG0 to CONFIG2 (10_state.md R33, R39, R40, R44 to R47). -/

namespace Sys2Proof.Machine

/-- `PENDING = (queued != in_use)`, never stored (R33). -/
def State.pending (s : State) : Bool := s.queued != s.inUse

/-- CTRL: bit 0 EN (R39, 43_sweep.md R138). -/
def State.ctrlWord (s : State) : Data := (BitVec.ofBool s.en).setWidth 32

/-- STATUS: `zext_32({EN, queued, in_use, (queued != in_use)})` (R40, 42_swap.md R119). -/
def State.statusWord (s : State) : Data :=
  (BitVec.ofBool s.en ++ BitVec.ofBool s.queued ++ BitVec.ofBool s.inUse ++ BitVec.ofBool s.pending).setWidth 32

/-- The bit of a direction, 0 = UP, 1 = DOWN (R34). -/
def Dir.bit : Dir → BitVec 1
  | .up => 0
  | .down => 1

/-- SEQ: `zext_32({dir, s[3:0]})` (R47, 43_sweep.md R139). -/
def State.seqWord (s : State) : Data := (s.dir.bit ++ s.slice).setWidth 32

/-- CONFIG0 (R44, 44_register_access.md R147). -/
def config0Word (c : Config) : Data :=
  BitVec.ofNat 4 c.lutShift ++ BitVec.ofBool c.activeLow ++ BitVec.ofNat 2 c.swapPolicy.code
    ++ BitVec.ofNat 1 c.sweepMode.code ++ 0#3 ++ BitVec.ofNat 5 c.minExp ++ 0#2 ++ BitVec.ofNat 6 c.n ++ 0#3
    ++ BitVec.ofNat 5 c.r

/-- CONFIG1 (R45, 44_register_access.md R148). -/
def config1Word (c : Config) : Data := 0#18 ++ BitVec.ofNat 6 c.cntWidth ++ 0#2 ++ BitVec.ofNat 6 c.portWidth

/-- CONFIG2 (R46, 44_register_access.md R149). -/
def config2Word (c : Config) : Data := BitVec.ofNat 32 c.periodFloor

end Sys2Proof.Machine
end

