-- ==== Sys2Proof/Machine/Ops.lean ====
section
/-! DEFINITION. The named operations on the state: the three replies of the bus (20_memory.md R65, R66), the register
writes, starting and stopping the sequencer, EncodeFree, and the reset cycle. BAMCORE has no memory a host addresses (R57)
and takes no exception (60_exceptions.md R157, R164), so there is no memory write and no exception entry here. -/

namespace Sys2Proof.Machine

/-- What a bus phase answers. -/
abbrev Reply := Host.Outcome State Fault Refusal

/-! ### Replies of the bus -/

/-- A performed read: `ready = 1`, `rdata` = the value read, nothing else changes (R61, R65). -/
def State.readReply (s : State) (v : Data) : State := { s with ready := true, rdata := v }

/-- A performed write, or a cycle with no transaction: `ready = 1`, `rdata = 0` (R64, R65). -/
def State.writeReply (s : State) : State := { s with ready := true, rdata := 0 }

/-- `hold`: the transaction is not performed, `ready = 0`, `rdata = 0` (R66). -/
def State.holdReply (s : State) : State := { s with ready := false, rdata := 0 }

/-! ### Register writes -/

/-- `INT[c] <- v` for c < N, no effect for c >= N (44_register_access.md R144). -/
def State.setIntensity (s : State) (c : Nat) (v : Intensity) : State :=
  if c < s.cfg.n then { s with intensity := s.intensity.set c v } else s

/-- `LUT_IN <- v` (40_lut.md R94). -/
def State.setLutIn (s : State) (v : Intensity) : State := { s with lutIn := v }

/-- `BUF[b] <- ws`, every word of the buffer in one edge (42_swap.md R109). -/
def State.setBuf (s : State) (b : Bool) (ws : List Data) : State :=
  if b then { s with buf1 := ws } else { s with buf0 := ws }

/-- `queued <- b` (R32). -/
def State.setQueued (s : State) (b : Bool) : State := { s with queued := b }

/-! ### The sequencer's start and stop -/

/-- `EN <- 1` (43_sweep.md R137). -/
def State.start (s : State) : State := { s with en := true }

/-- `EN <- 0; s <- 0; dir <- UP; cnt <- 0; match <- 0; pwm_out <- INACTIVE` (R137). -/
def State.stop (s : State) : State :=
  { s with en := false, slice := 0, dir := .up, cnt := 0, matchReg := 0, pwmOut := s.cfg.inactive }

/-! ### EncodeFree and reset -/

/-- EncodeFree: `BUF[!in_use][i] <- encode(INT)[i]` for every i (42_swap.md R109). -/
def State.encodeFree (s : State) : State := s.setBuf (!s.inUse) (encodeFrame s.cfg s.intensity)

/-- A reset cycle: RESET_STATE of the same configuration, whatever the state was (70_reset_and_hazards.md R173); the inputs
to come are not the machine's and stay. -/
def State.resetCycle (s : State) : State := { State.resetFor s.cfg with inputs := s.inputs }

/-- Instantiate the machine with the given parameters: `ConfigError(check)`, or RESET_STATE of that configuration
(60_exceptions.md R158, 70_reset_and_hazards.md R175). -/
def instantiate (p : RawConfig) : Except ConfigCheck State :=
  match p.build with
  | .error check => .error check
  | .ok c => .ok (State.resetFor c)

end Sys2Proof.Machine
end

