-- ==== Sys2Proof/Machine/Access.lean ====
section
/-! DEFINITION. Staging, configuration read-back and the reserved forms (44_register_access.md R144 to R152). -/

namespace Sys2Proof.Machine

/-- INT_WR c: `INT[c] <- D[15:0]` for c < N, else no effect (R144). -/
def execIntWr (c : BitVec 5) (d : Data) (s : State) : Reply :=
  .next (s.setIntensity c.toNat (dataLow16 d)).writeReply

/-- INT_RD c: the raw staged value for c < N, else 0 (R145). -/
def execIntRd (c : BitVec 5) (s : State) : Reply := .next (s.readReply (s.intensityWord c))

/-- CONFIG0_RD (R147). -/
def execConfig0Rd (s : State) : Reply := .next (s.readReply (config0Word s.cfg))

/-- CONFIG1_RD (R148). -/
def execConfig1Rd (s : State) : Reply := .next (s.readReply (config1Word s.cfg))

/-- CONFIG2_RD (R149). -/
def execConfig2Rd (s : State) : Reply := .next (s.readReply (config2Word s.cfg))

/-- PINMASK_RD c: the mask for c < N, else 0 (R150). -/
def execPinmaskRd (c : BitVec 5) (s : State) : Reply := .next (s.readReply (pinMaskWord s.cfg c))

/-- RSV_RD: the address is ignored and the read value is 0 (R151). -/
def execRsvRd (_a : Addr) (s : State) : Reply := .next (s.readReply 0)

/-- RSV_WR: no effect; the address and the data are ignored (R152). -/
def execRsvWr (_a : Addr) (_d : Data) (s : State) : Reply := .next s.writeReply

end Sys2Proof.Machine
end

