-- ==== Sys2Proof/Machine/Lut.lean ====
section
/-! DEFINITION. The transactions of the LUT probe (40_lut.md R94 to R97). Each acts on σ1, the state after the sequencer
phase of its cycle (20_memory.md R64). -/

namespace Sys2Proof.Machine

/-- LUTIN_WR: `LUT_IN <- D[15:0]` (R94). -/
def execLutinWr (d : Data) (s : State) : Reply := .next (s.setLutIn (dataLow16 d)).writeReply

/-- LUTIN_RD: `rdata <- zext_32(LUT_IN)` (R95). -/
def execLutinRd (s : State) : Reply := .next (s.readReply (zext32 s.lutIn))

/-- LUTOUT_RD: `rdata <- zext_32(correct(LUT_IN))` (R96). -/
def execLutoutRd (s : State) : Reply := .next (s.readReply (zext32 (correct s.cfg s.lutIn)))

/-- LUTNODE_RD k: `rdata <- {LUT_SLOPE[k], LUT_BASE[k]}` (R97). -/
def execLutnodeRd (k : BitVec 5) (s : State) : Reply := .next (s.readReply (lutNodeWord s.cfg k))

end Sys2Proof.Machine
end

