-- ==== Sys2Proof/Machine/Swap.lean ====
section
/-! DEFINITION. The transactions of the slice store and the swap control (42_swap.md R108 to R114, R119, R120). -/

namespace Sys2Proof.Machine

/-- A swap request: EncodeFree and `queued <- !in_use` (R110, R111, R113). -/
def State.requestSwap (s : State) : State := s.encodeFree.setQueued (!s.inUse)

/-- FLIP (R108), by SWAP_POLICY: SUPERSEDE always requests (R110); IGNORE does nothing while a swap is pending (R111);
TOGGLE encodes and inverts `queued` (R112); WAIT holds while a swap is pending (R113). -/
def execFlip (s : State) : Reply :=
  match s.cfg.swapPolicy with
  | .supersede => .next s.requestSwap.writeReply
  | .ignore => .next (if s.pending then s else s.requestSwap).writeReply
  | .toggle => .next (s.encodeFree.setQueued (!s.queued)).writeReply
  | .wait => .next (if s.pending then s.holdReply else s.requestSwap.writeReply)

/-- CMD_NOP: a CMD write with D[0] = 0 has no effect (R114). -/
def execCmdNop (_d : Data) (s : State) : Reply := .next s.writeReply

/-- STATUS_RD (R119). -/
def execStatusRd (s : State) : Reply := .next (s.readReply s.statusWord)

/-- BUF_RD b, i: the slice word for i < R, else 0 (R120). -/
def execBufRd (b : Bool) (i : BitVec 4) (s : State) : Reply := .next (s.readReply (s.bufWord b i))

end Sys2Proof.Machine
end

