-- ==== Sys2Proof/Machine/Sweep.lean ====
section
/-! DEFINITION. The transactions that start, stop and observe the sequencer (43_sweep.md R137 to R142). -/

namespace Sys2Proof.Machine

/-- CTRL_WR: D[0] = 1 starts the sequencer, D[0] = 0 stops it (R137). -/
def execCtrlWr (d : Data) (s : State) : Reply := .next (if dataBit0 d then s.start else s.stop).writeReply

/-- CTRL_RD: `rdata <- zext_32(EN)` (R138). -/
def execCtrlRd (s : State) : Reply := .next (s.readReply s.ctrlWord)

/-- SEQ_RD (R139). -/
def execSeqRd (s : State) : Reply := .next (s.readReply s.seqWord)

/-- TCNT_RD: `rdata <- zext_32(cnt)` (R140). -/
def execTcntRd (s : State) : Reply := .next (s.readReply s.cnt)

/-- TMATCH_RD: `rdata <- zext_32(match)` (R141). -/
def execTmatchRd (s : State) : Reply := .next (s.readReply s.matchReg)

/-- PORTOUT_RD: `rdata <- zext_32(pwm_out)` (R142). -/
def execPortoutRd (s : State) : Reply := .next (s.readReply s.pwmOut)

end Sys2Proof.Machine
end

