-- ==== Sys2Proof/Machine/Dispatch.lean ====
section
/-! DEFINITION. The bus phase of a decoded transaction (20_memory.md R65): one arm per row of 30_encoding.md R76. -/

namespace Sys2Proof.Machine

/-- The rule that the transaction's row names, applied to σ1 (R65). -/
def exec (i : Instr) (s : State) : Host.Outcome State Fault Refusal :=
  match i with
  | .ctrlWr d => Sys2Proof.Machine.execCtrlWr d s
  | .ctrlRd => Sys2Proof.Machine.execCtrlRd s
  | .statusRd => Sys2Proof.Machine.execStatusRd s
  | .flip => Sys2Proof.Machine.execFlip s
  | .cmdNop d => Sys2Proof.Machine.execCmdNop d s
  | .lutinWr d => Sys2Proof.Machine.execLutinWr d s
  | .lutinRd => Sys2Proof.Machine.execLutinRd s
  | .lutoutRd => Sys2Proof.Machine.execLutoutRd s
  | .config0Rd => Sys2Proof.Machine.execConfig0Rd s
  | .config1Rd => Sys2Proof.Machine.execConfig1Rd s
  | .config2Rd => Sys2Proof.Machine.execConfig2Rd s
  | .seqRd => Sys2Proof.Machine.execSeqRd s
  | .tcntRd => Sys2Proof.Machine.execTcntRd s
  | .tmatchRd => Sys2Proof.Machine.execTmatchRd s
  | .portoutRd => Sys2Proof.Machine.execPortoutRd s
  | .intWr c d => Sys2Proof.Machine.execIntWr c d s
  | .intRd c => Sys2Proof.Machine.execIntRd c s
  | .bufRd b k => Sys2Proof.Machine.execBufRd b k s
  | .pinmaskRd c => Sys2Proof.Machine.execPinmaskRd c s
  | .lutnodeRd k => Sys2Proof.Machine.execLutnodeRd k s
  | .rsvRd a => Sys2Proof.Machine.execRsvRd a s
  | .rsvWr a d => Sys2Proof.Machine.execRsvWr a d s

end Sys2Proof.Machine
end

