-- ==== Sys2Proof/Machine/Sequencer.lean ====
section
/-! DEFINITION. The sequencer phase of a cycle: SeqPhase, Expiry, Advance, Drive, SwapCommit (43_sweep.md R125 to R129,
42_swap.md R117). -/

namespace Sys2Proof.Machine

/-- `Drive(w) = w ^ INACTIVE` (R129). -/
def drive (c : Config) (w : Data) : Data := w ^^^ c.inactive

/-- `Advance(s, dir)`: the next index, the next direction, and whether this expiry is a sweep boundary (R127). -/
def advance (c : Config) (s : BitVec 4) (dir : Dir) : BitVec 4 × Dir × Bool :=
  match c.sweepMode, dir with
  | .uni, _ => if s.toNat = c.r - 1 then (0, .up, true) else (s + 1, .up, false)
  | .bidi, .up =>
    if s.toNat < c.r - 1 then (s + 1, .up, false)
    else (if c.r = 1 then 0 else BitVec.ofNat 4 (c.r - 2), .down, true)
  | .bidi, .down =>
    if 0 < s.toNat then (s - 1, .down, false) else (if c.r = 1 then 0 else 1, .up, true)

/-- SwapCommit: `in_use <- queued` (42_swap.md R117). -/
def State.swapCommit (s : State) : State := { s with inUse := s.queued }

/-- Steps 1 and 2 of an expiry: reload the timer for the current slice and output it (R126). -/
def State.outputSlice (s : State) : State :=
  { s with
    matchReg := toCntWidth s.cfg (s.cfg.period s.slice.toNat - 1)
    cnt := 0
    pwmOut := drive s.cfg (s.bufAt s.inUse s.slice.toNat) }

/-- Expiry: reload, output, advance, and commit at a boundary; all reads see the state before it (R126, R128). -/
def State.expiry (s : State) : State :=
  let next := advance s.cfg s.slice s.dir
  let moved := { s.outputSlice with slice := next.1, dir := next.2.1 }
  if next.2.2 then moved.swapCommit else moved

/-- A tick without expiry: `cnt <- cnt + 1` (R125). -/
def State.countTick (s : State) : State := { s with cnt := toCntWidth s.cfg (s.cnt.toNat + 1) }

/-- `SeqPhase(σ, tick_en)` (R125). -/
def State.seqPhase (s : State) (tickEn : Bool) : State :=
  if s.en && tickEn then
    if s.cnt = s.matchReg then s.expiry else s.countTick
  else s

end Sys2Proof.Machine
end

