-- ==== Sys2Proof/Machine/Cycle.lean ====
section
/-! DEFINITION. One clock edge (20_memory.md R64): reset, else the sequencer phase, then the bus phase on its result. -/

namespace Sys2Proof.Machine

/-- `BusPhase(σ1, we, a, wdata)`: decode the transaction word `{we, a, wdata}` and apply its rule (R65). -/
def State.busPhase (s : State) (we : Bool) (a : Addr) (wdata : Data) : Reply := exec (decode (txnWord we a wdata)) s

/-- `Step(σ, rst, tick_en, req, we, addr, wdata)` (R64). -/
def State.clockEdge (s : State) (inp : CycleInput) : Reply :=
  if inp.rst then .next s.resetCycle
  else
    let s1 := s.seqPhase inp.tickEn
    if inp.req then s1.busPhase inp.we (inp.addr &&& 0xFFC) inp.wdata else .next s1.writeReply

/-- `MemRead(addr, 4)` (00_scope.md R24): the value one read transaction at `addr` returns. -/
def State.memRead (s : State) (addr : Addr) : Data :=
  match s.busPhase false (addr &&& 0xFFC) 0 with
  | .next t => t.rdata
  | .fault _ | .refused _ => 0

/-- `MemWrite(addr, 4, v)` (R24): one write transaction. -/
def State.memWrite (s : State) (addr : Addr) (v : Data) : Reply := s.busPhase true (addr &&& 0xFFC) v

/-- The inputs of the next edge: the first of `inputs`, or an idle cycle (notes/assumptions/3.md). -/
def State.nextInput (s : State) : CycleInput := s.inputs.headD idleCycle

/-- The state with the inputs of the next edge taken. -/
def State.takeInput (s : State) : State := { s with inputs := s.inputs.tail }

/-- The edge that presents a transaction given as its word, with no tick and no reset. -/
def presentWord (w : Txn) : CycleInput :=
  { rst := false, tickEn := false, req := true, we := w.getLsbD 44, addr := txnAddr w, wdata := txnData w }

/-- `s` with a cycle presented before the rest of its inputs. -/
def State.present (s : State) (inp : CycleInput) : State := { s with inputs := inp :: s.inputs }

end Sys2Proof.Machine
end

