-- ==== Sys2Proof/Machine/Step.lean ====
section
/-! DEFINITION. One step of the machine: one rising edge of `clk` (20_memory.md R64) with the next of its inputs. -/

namespace Sys2Proof.Machine

/-- A clock edge. A state whose configuration fails a check of 00_scope.md R21 has no step: `ConfigError(check)`
(60_exceptions.md R158; notes/assumptions/6.md). -/
def step (s : State) : Host.Outcome State Fault Refusal :=
  match s.cfg.firstFailure with
  | some check => .fault (.configError check)
  | none => s.takeInput.clockEdge s.nextInput

/-- `s` with the transaction whose bits are `w` (bits 44..0, 30_encoding.md R73) presented at the next clock edge
(notes/assumptions/4.md). -/
def State.withFetchWord (s : State) (_nbits w : Nat) : State := s.present (presentWord (BitVec.ofNat 45 w))

end Sys2Proof.Machine
end

