-- ==== Sys2Proof/Machine/HostProgram.lean ====
section
/-! DEFINITION. Host programs, one clock cycle per line (30_encoding.md R83), the pseudo-instructions (R84), the source's
application API (44_register_access.md R153 to R156) and the boot sequence (70_reset_and_hazards.md R176). -/

namespace Sys2Proof.Machine

/-- One line `[t:] <op>` of a host program (R83); the Bool is the prefix `t:`, a timer tick in that cycle. -/
inductive HostLine where
  /-- A transaction. -/
  | txn (tick : Bool) (i : Instr)
  /-- `-`: no transaction. -/
  | none (tick : Bool)
  /-- `RESET`: a cycle with `rst = 1` and no transaction. -/
  | reset (tick : Bool)
deriving DecidableEq, Repr

/-- The inputs of the cycle a line stands for (R73, R83). -/
def HostLine.cycle : HostLine → CycleInput
  | .txn tick i => { presentWord (encode i) with tickEn := tick }
  | .none tick => { idleCycle with tickEn := tick }
  | .reset tick => { idleCycle with rst := true, tickEn := tick }

/-- `START` (R84). -/
def HostLine.start : HostLine := .txn false (.ctrlWr 1)

/-- `STOP` (R84). -/
def HostLine.stop : HostLine := .txn false (.ctrlWr 0)

/-- `SET c, v`, the hardware form of `pwm_set` (R84, R153). -/
def HostLine.set (c : BitVec 5) (v : Data) : HostLine := .txn false (.intWr c v)

/-- `PWM_FLIP`, the hardware form of `pwm_flip` and `request_swap` (R84, R154). -/
def HostLine.pwmFlip : HostLine := .txn false .flip

/-- `LUTEVAL x`: `LUTIN_WR x` then `LUTOUT_RD` (R84). -/
def lutEval (x : Data) : List HostLine := [.txn false (.lutinWr x), .txn false .lutoutRd]

/-- `TICK n` (R84). -/
def tickLines (n : Nat) : List HostLine := List.replicate n (.none true)

/-- `IDLE n` (R84). -/
def idleLines (n : Nat) : List HostLine := List.replicate n (.none false)

/-- One `SET` per channel whose intensity is not 0, the channels of `ints` counted from `c` on (R176). -/
def setLines (c : Nat) : List Intensity → List HostLine
  | [] => []
  | v :: vs => if v = 0 then setLines (c + 1) vs else .set (BitVec.ofNat 5 c) (zext32 v) :: setLines (c + 1) vs

/-- The boot sequence for a first frame (R176): at least one reset cycle (`more` counts those beyond the first), the SETs,
then PWM_FLIP and START, in either order. -/
def bootLines (more : Nat) (startFirst : Bool) (ints : List Intensity) : List HostLine :=
  List.replicate (more + 1) (.reset false) ++
    (setLines 0 ints ++ if startFirst then [.start, .pwmFlip] else [.pwmFlip, .start])

/-- The machine with a host program before its inputs to come. -/
def State.withProgram (s : State) (lines : List HostLine) : State :=
  { s with inputs := lines.map HostLine.cycle ++ s.inputs }

end Sys2Proof.Machine
end

