-- ==== Sys2Proof/Safety.lean ====
section
/-! DEFINITION. What a reachable state satisfies (10_state.md R38), who may write what, and the host's duty during a hold
(20_memory.md R66), in the terms the statements use. -/

namespace Sys2Proof.Machine

/-- Every set bit of `w` is a pin of some channel: `w & ~CHAN_PINS = 0`. -/
abbrev OnChannelPins (c : Config) (w : Data) : Prop := w &&& ~~~ c.chanPins = 0

/-- The arrays of R28 have the lengths the configuration gives them. -/
abbrev State.Shaped (s : State) : Prop :=
  s.intensity.length = s.cfg.n ∧ s.buf0.length = s.cfg.r ∧ s.buf1.length = s.cfg.r

/-- (I1), (I2), (I3) of R38: the slice index, the counter and the match register are in range. -/
abbrev State.TimerInRange (s : State) : Prop :=
  s.slice.toNat ≤ s.cfg.r - 1 ∧ s.cnt.toNat ≤ s.matchReg.toNat ∧ s.matchReg.toNat ≤ s.cfg.pmax - 1

/-- (I4) of R38: a stopped sequencer holds the start position and an inactive port. -/
abbrev State.StoppedIsCleared (s : State) : Prop :=
  s.en = false → s.slice = 0 ∧ s.dir = .up ∧ s.cnt = 0 ∧ s.matchReg = 0 ∧ s.pwmOut = s.cfg.inactive

/-- (I5) of R38: in UNI mode the direction is UP. -/
abbrev State.UniGoesUp (s : State) : Prop := s.cfg.sweepMode = .uni → s.dir = .up

/-- (I6), (I7) of R38: slice words and the driven port touch channel pins only. -/
abbrev State.PinsConfined (s : State) : Prop :=
  (∀ w ∈ s.buf0, OnChannelPins s.cfg w) ∧ (∀ w ∈ s.buf1, OnChannelPins s.cfg w) ∧
    OnChannelPins s.cfg (s.pwmOut ^^^ s.cfg.inactive)

/-- The invariant of R38 (I1 to I7), with the lengths of the arrays; (I8) speaks of a step, not of a state, and is
`KeepsActiveBuffer`. -/
abbrev State.Inv (s : State) : Prop :=
  s.Shaped ∧ s.TimerInRange ∧ s.StoppedIsCleared ∧ s.UniGoesUp ∧ s.PinsConfined

/-- (I8) of R38, for one step from `s` to `t`: the buffer active after the step was not written by it. -/
abbrev KeepsActiveBuffer (s t : State) : Prop := t.buf t.inUse = s.buf t.inUse

/-- The host's duty (R66): after a step from `s` to `t` in which a presented transaction was held, the next cycle
presents the same transaction, unless it is a reset cycle. The model performs any cycle, honoured or not. -/
abbrev HoldHonoured (s t : State) : Prop :=
  s.nextInput.req = true → t.ready = false → t.nextInput.rst = true ∨
    (t.nextInput.req = true ∧ t.nextInput.we = s.nextInput.we ∧ t.nextInput.addr = s.nextInput.addr ∧
      t.nextInput.wdata = s.nextInput.wdata)

/-- The cycle presents a FLIP: `req = 1` and its word decodes to row 4 of 30_encoding.md R76. -/
abbrev CycleInput.presentsFlip (inp : CycleInput) : Prop :=
  inp.req = true ∧ decode (txnWord inp.we inp.addr inp.wdata) = .flip

/-- The cycle presents a CTRL_WR with D[0] = 0, a STOP (43_sweep.md R137). -/
abbrev CycleInput.presentsStop (inp : CycleInput) : Prop :=
  inp.req = true ∧ decode (txnWord inp.we inp.addr inp.wdata) = .ctrlWr inp.wdata ∧ inp.wdata.getLsbD 0 = false

/-- The cycle presents a CTRL_WR with D[0] = 1, a START (R137). -/
abbrev CycleInput.presentsStart (inp : CycleInput) : Prop :=
  inp.req = true ∧ decode (txnWord inp.we inp.addr inp.wdata) = .ctrlWr inp.wdata ∧ inp.wdata.getLsbD 0 = true

/-- The next clock edge carries a FLIP that acts (42_swap.md R110 to R113): no reset, FLIP presented, and neither held (WAIT)
nor without effect (IGNORE), both of which happen while a swap is pending after the sequencer phase. -/
abbrev State.FlipActs (s : State) : Prop :=
  s.nextInput.rst = false ∧ s.nextInput.presentsFlip ∧
    (s.cfg.swapPolicy = .ignore ∨ s.cfg.swapPolicy = .wait →
      (s.takeInput.seqPhase s.nextInput.tickEn).pending = false)

/-- The next clock edge performs an expiry: no reset, and a timer tick with `cnt = match` while `EN = 1` (R125). -/
abbrev State.ExpiryEdge (s : State) : Prop :=
  s.nextInput.rst = false ∧ s.en = true ∧ s.nextInput.tickEn = true ∧ s.cnt = s.matchReg

/-- An expiry of this state is a sweep boundary (R127): the wrap in UNI, either reversal in BIDI. -/
abbrev State.AtBoundary (s : State) : Prop :=
  match s.cfg.sweepMode, s.dir with
  | .uni, _ => s.slice.toNat = s.cfg.r - 1
  | .bidi, .up => s.cfg.r - 1 ≤ s.slice.toNat
  | .bidi, .down => s.slice = 0

/-- The number of timer ticks in the first `m` cycles of a list of inputs; those beyond its end are idle. -/
def tickCount (m : Nat) (l : List CycleInput) : Nat := (l.take m).countP (·.tickEn)

/-- `n` steps, if none of them stops the machine. -/
def steps : Nat → State → Option State
  | 0, s => some s
  | n + 1, s =>
    match step s with
    | .next t => steps n t
    | .fault _ | .refused _ => none

/-- The transactions that read: W = 0 in R76. -/
def isRead : Instr → Bool
  | .ctrlWr _ | .flip | .cmdNop _ | .lutinWr _ | .intWr _ _ | .rsvWr _ _ => false
  | .ctrlRd | .statusRd | .lutinRd | .lutoutRd | .config0Rd | .config1Rd | .config2Rd | .seqRd | .tcntRd
  | .tmatchRd | .portoutRd | .intRd _ | .bufRd _ _ | .pinmaskRd _ | .lutnodeRd _ | .rsvRd _ => true

end Sys2Proof.Machine
end

