-- ==== Sys2Proof/Certificates/Slice0/Obligations.lean ====
section
/-! DEFINITION. What the provers are asked to prove of the model: statements made from the numbered rules of spec/, for every
state, hence for every configuration that State can hold. -/

open Sys2Proof Sys2Proof.Machine

/-! ### Encoding (30_encoding.md, 20_memory.md) -/

/-- Sample words of 95_test_vectors.md and of the rules' examples decode to the transactions they stand for. -/
def Obligations.SampleWordsDecode : Prop :=
  decodeTableWord 48 0x100000000001 = some (.ctrlWr 1) ∧ decodeTableWord 48 0x100800000001 = some .flip ∧
  decodeTableWord 48 0x1008FFFFFFFE = some (.cmdNop 0xFFFFFFFE) ∧
  decodeTableWord 48 0x109CDEADBEEF = some (.intWr 7 0xDEADBEEF) ∧
  decodeTableWord 48 0x015C00000000 = some (.bufRd true 7) ∧
  decodeTableWord 48 0x034000000000 = some (.lutnodeRd 16) ∧
  decodeTableWord 48 0x000800000000 = some (.rsvRd 0x008) ∧
  decodeTableWord 48 0x1100FFFFFFFF = some (.rsvWr 0x100 0xFFFFFFFF)

/-- Decode and encode agree on every well-formed transaction (R73 to R76). -/
def Obligations.DecodeEncodeAgree : Prop := ∀ i : Instr, i.wellFormed = true → decode (encode i) = i

/-- Every 45-bit word decodes to a well-formed transaction (R76), and its write bit, address and data say when it is a
reserved form or a CMD write: RSV_RD exactly for a read at a slot of R77 or at CMD (R78), RSV_WR exactly for a write at
a slot of R77 or of a read-only register (R78), FLIP and CMD_NOP exactly for a write at CMD, by D[0] (R83). That the
operand of a reserved form is the slot's address, A with A[1:0] cleared, is the model's reading of R59
(notes/assumptions/11.md). -/
def Obligations.EveryWordDecodesWellFormed : Prop :=
  (∀ w : Txn, (decode w).wellFormed = true) ∧
  ∀ (we : Bool) (a : Addr) (d : Data),
    (∀ b, decode (txnWord we a d) = .rsvRd b ↔ we = false ∧ b = a &&& 0xFFC ∧ isReservedRead b = true) ∧
    (∀ b e, decode (txnWord we a d) = .rsvWr b e ↔
      we = true ∧ b = a &&& 0xFFC ∧ isReservedWrite b = true ∧ e = d) ∧
    (∀ e, decode (txnWord we a d) = .cmdNop e ↔ we = true ∧ a &&& 0xFFC = 0x008 ∧ d.getLsbD 0 = false ∧ e = d) ∧
    (decode (txnWord we a d) = .flip ↔ we = true ∧ a &&& 0xFFC = 0x008 ∧ d.getLsbD 0 = true)

/-- R59: a transaction at `addr` acts on the word slot `addr & 0xFFC`, and none faults. That the two addresses give the same
decoded term also at a reserved slot is the model's choice of that term's operand (notes/assumptions/11.md). -/
def Obligations.AddressLowBitsIgnored : Prop :=
  ∀ (s : State) (we : Bool) (a : Addr) (d : Data),
    decode (txnWord we a d) = decode (txnWord we (a &&& 0xFFC) d) ∧
    s.busPhase we a d = s.busPhase we (a &&& 0xFFC) d ∧ ∃ t, s.busPhase we a d = .next t

/-- R77: at a reserved slot a read returns 0 and a write has no effect; no transaction is illegal. -/
def Obligations.ReservedSlotsReadZeroIgnoreWrites : Prop :=
  (∀ (s : State) (a : Addr) (d : Data), isSlot a = true → inReservedRange a = true →
    s.busPhase false a d = .next { s with ready := true, rdata := 0 } ∧
    s.busPhase true a d = .next { s with ready := true, rdata := 0 }) ∧
  ∀ (s : State) (we : Bool) (a : Addr) (d : Data), ∃ t, s.busPhase we a d = .next t

/-- R78: a write to a read-only register decodes as RSV_WR and has no effect; a read of CMD decodes as RSV_RD and returns
0. -/
def Obligations.WrongDirectionAccessesAreReserved : Prop :=
  (∀ (s : State) (a : Addr) (d : Data), isSlot a = true →
    (a = 0x004 ∨ (0x010 ≤ a ∧ a ≤ 0x02C) ∨ (0x100 ≤ a ∧ a ≤ 0x17C) ∨ (0x200 ≤ a ∧ a ≤ 0x27C) ∨
      (0x300 ≤ a ∧ a ≤ 0x37C)) →
    decode (txnWord true a d) = .rsvWr a d ∧
    s.busPhase true a d = .next { s with ready := true, rdata := 0 }) ∧
  ∀ (s : State) (d : Data), decode (txnWord false 0x008 d) = .rsvRd 0x008 ∧
    s.busPhase false 0x008 d = .next { s with ready := true, rdata := 0 }

/-- R79 (and, for reads, R74): two data words that agree on the bits a write's rule names do the same; for a reserved write
and for a read, all data words do. -/
def Obligations.UnusedDataBitsIgnored : Prop :=
  ∀ (s : State) (d e : Data),
    (d.getLsbD 0 = e.getLsbD 0 → s.busPhase true 0x000 d = s.busPhase true 0x000 e ∧
      s.busPhase true 0x008 d = s.busPhase true 0x008 e) ∧
    (d.extractLsb' 0 16 = e.extractLsb' 0 16 → s.busPhase true 0x00C d = s.busPhase true 0x00C e ∧
      ∀ a : Addr, 0x080 ≤ a → a ≤ 0x0FC → s.busPhase true a d = s.busPhase true a e) ∧
    ∀ a : Addr, (isReservedWrite a = true → s.busPhase true a d = s.busPhase true a e) ∧
      s.busPhase false a d = s.busPhase false a e

/-! ### The lookup table (40_lut.md) -/

/-- R85, R86: `correct(x)` is the node's base plus the shifted product, saturated, with `k = x >> 11` and
`off = x & 0x7FF`, that is the quotient and the remainder by the span 2048. -/
def Obligations.CorrectIsSaturatedInterpolation : Prop :=
  ∀ (c : Config) (x : Intensity),
    (correct c x).toNat = min (c.lutBaseAt (x.toNat / 2048)
      + c.lutSlopeAt (x.toNat / 2048) * (x.toNat % 2048) / 2 ^ c.lutShift) 65535

/-- R91: `correct` is monotonic for every admitted configuration, and a table that fails CHK_LUT_MONO at a node decreases
there. -/
def Obligations.CorrectIsMonotone : Prop :=
  (∀ (c : Config), c.Admitted → ∀ a b : Intensity, a ≤ b → correct c a ≤ correct c b) ∧
  ∀ (c : Config) (k : Nat), k < 31 → c.passes .chkLutRange = true →
    c.lutBaseAt (k + 1) < sat16 (c.lutSum k 2047) →
    (correct c (BitVec.ofNat 16 (2048 * k + 2048))).toNat < (correct c (BitVec.ofNat 16 (2048 * k + 2047))).toNat

/-- R89: with the identity table `correct` is the identity for every LUT_SHIFT in 0..15, and the table passes CHK_LUT_MONO
with equality plus one. -/
def Obligations.IdentityTableIsIdentity : Prop :=
  ∀ c : Config, c.lutShift ≤ 15 →
    (∀ k, k < 32 → c.lutBaseAt k = 2048 * k ∧ c.lutSlopeAt k = 1 <<< c.lutShift) →
    (∀ x : Intensity, correct c x = x) ∧ (∀ k, k < 31 → sat16 (c.lutSum k 2047) + 1 = c.lutBaseAt (k + 1)) ∧
    c.passes .chkLutMono = true

/-- R92: at the first input of each node the corrected value is the node's base. -/
def Obligations.NodeValuesAreBases : Prop :=
  ∀ c : Config, c.Admitted →
    (∀ k, k < 32 → (correct c (BitVec.ofNat 16 (2048 * k))).toNat = c.lutBaseAt k) ∧
    (correct c 0).toNat = c.lutBaseAt 0

/-- LUTIN_WR (R94): LUT_IN takes D[15:0] and nothing else changes. -/
def Obligations.LutInWriteTakesLowHalf : Prop :=
  ∀ (s : State) (d : Data), decode (txnWord true 0x00C d) = .lutinWr d ∧
    exec (.lutinWr d) s = .next { s with lutIn := d.extractLsb' 0 16, ready := true, rdata := 0 }

/-- LUTIN_RD (R95), LUTOUT_RD (R96) and LUTNODE_RD (R97): what they read, and that they change nothing else. -/
def Obligations.LutProbeReads : Prop :=
  ∀ (s : State) (d : Data),
    (decode (txnWord false 0x00C d) = .lutinRd ∧
      exec .lutinRd s = .next { s with ready := true, rdata := BitVec.ofNat 32 s.lutIn.toNat }) ∧
    (decode (txnWord false 0x010 d) = .lutoutRd ∧
      exec .lutoutRd s = .next { s with ready := true, rdata := BitVec.ofNat 32 (correct s.cfg s.lutIn).toNat }) ∧
    ∀ k : BitVec 5, decode (txnWord false (BitVec.ofNat 12 (0x300 + 4 * k.toNat)) d) = .lutnodeRd k ∧
      ∃ v : Data, exec (.lutnodeRd k) s = .next { s with ready := true, rdata := v } ∧
        (s.cfg.passes .chkLutRange = true → (v.extractLsb' 0 16).toNat = s.cfg.lutBaseAt k.toNat ∧
          (v.extractLsb' 16 16).toNat = s.cfg.lutSlopeAt k.toNat)

/-! ### The BAM encoder (41_encoder.md) -/

/-- R101, with the port form of R99: slice `i` of an encoded frame holds `PIN_MASK[ch]` whole where bit `i` of the
truncated level `t[ch] = correct(INT[ch]) >> (16 - R)` is 1, no pin of it where that bit is 0, and no pin of no
channel; `t[ch]` is an R-bit number. -/
def Obligations.SliceHoldsMaskIffLevelBit : Prop :=
  ∀ (c : Config) (ints : List Intensity), c.Admitted → (encodeFrame c ints).length = c.r ∧
    ∀ i w, i < c.r → (encodeFrame c ints)[i]? = some w →
      OnChannelPins c w ∧
      ∀ ch, ch < c.n → (correct c (ints.getD ch 0)).toNat / 2 ^ (16 - c.r) < 2 ^ c.r ∧
        w &&& c.pinMaskAt ch =
          if ((correct c (ints.getD ch 0)).toNat / 2 ^ (16 - c.r)).testBit i then c.pinMaskAt ch else 0

/-- R103: the bits of a slice for channel `ch` depend on `INT[ch]` only. -/
def Obligations.LanesAreIndependent : Prop :=
  ∀ (c : Config) (ints ints' : List Intensity) (ch i : Nat), c.Admitted → ch < c.n → i < c.r →
    ints.getD ch 0 = ints'.getD ch 0 →
    ∀ w w', (encodeFrame c ints)[i]? = some w → (encodeFrame c ints')[i]? = some w' →
      w &&& c.pinMaskAt ch = w' &&& c.pinMaskAt ch

/-- The ticks behind R106 and R133: with PERIOD_FLOOR <= M the periods of the slices of a frame that hold channel `ch` add up to
`M * t[ch]`, and all R periods to `M * (2^R - 1)`. -/
def Obligations.SlicePeriodsAddUpToLevel : Prop :=
  ∀ (c : Config) (ints : List Intensity) (ch : Nat), c.Admitted → ch < c.n → c.periodFloor ≤ 2 ^ c.minExp →
    ((List.range c.r).map fun i =>
        if sliceWord c ints i &&& c.pinMaskAt ch = c.pinMaskAt ch then c.period i else 0).sum =
      2 ^ c.minExp * ((correct c (ints.getD ch 0)).toNat / 2 ^ (16 - c.r)) ∧
    ((List.range c.r).map c.period).sum = 2 ^ c.minExp * (2 ^ c.r - 1)

/-! ### FLIP and the slice store (42_swap.md) -/

/-- SUPERSEDE (R110): every FLIP writes the frame of the staged intensities into the free buffer and sets
`queued <- !in_use`; nothing else changes, the active buffer included. -/
def Obligations.FlipUnderSupersede : Prop :=
  ∀ s : State, s.cfg.swapPolicy = .supersede → ∃ t, exec .flip s = .next t ∧
    t.buf (!s.inUse) = encodeFrame s.cfg s.intensity ∧ t.buf s.inUse = s.buf s.inUse ∧ t.queued = !s.inUse ∧
    t = { s with buf0 := t.buf0, buf1 := t.buf1, queued := t.queued, ready := true, rdata := 0 }

/-- IGNORE (R111): with no swap pending a FLIP requests one; with one pending it changes no state at all. -/
def Obligations.FlipUnderIgnore : Prop :=
  ∀ s : State, s.cfg.swapPolicy = .ignore → ∃ t, exec .flip s = .next t ∧
    (s.queued = s.inUse → t.buf (!s.inUse) = encodeFrame s.cfg s.intensity ∧ t.buf s.inUse = s.buf s.inUse ∧
      t.queued = !s.inUse ∧
      t = { s with buf0 := t.buf0, buf1 := t.buf1, queued := t.queued, ready := true, rdata := 0 }) ∧
    (s.queued ≠ s.inUse → t = { s with ready := true, rdata := 0 })

/-- TOGGLE (R112): every FLIP writes the frame and inverts `queued`: a request when none is pending, a cancel when one is. -/
def Obligations.FlipUnderToggle : Prop :=
  ∀ s : State, s.cfg.swapPolicy = .toggle → ∃ t, exec .flip s = .next t ∧
    t.buf (!s.inUse) = encodeFrame s.cfg s.intensity ∧ t.buf s.inUse = s.buf s.inUse ∧
    (s.queued = s.inUse → t.queued = !s.inUse) ∧ (s.queued = (!s.inUse) → t.queued = s.inUse) ∧
    t = { s with buf0 := t.buf0, buf1 := t.buf1, queued := t.queued, ready := true, rdata := 0 }

/-- WAIT (R113): with no swap pending a FLIP requests one; with one pending it is held, `ready = 0` and no state change. -/
def Obligations.FlipUnderWait : Prop :=
  ∀ s : State, s.cfg.swapPolicy = .wait → ∃ t, exec .flip s = .next t ∧
    (s.queued = s.inUse → t.buf (!s.inUse) = encodeFrame s.cfg s.intensity ∧ t.buf s.inUse = s.buf s.inUse ∧
      t.queued = !s.inUse ∧
      t = { s with buf0 := t.buf0, buf1 := t.buf1, queued := t.queued, ready := true, rdata := 0 }) ∧
    (s.queued ≠ s.inUse → t = { s with ready := false, rdata := 0 })

/-- CMD_NOP (R114): a CMD write with D[0] = 0 changes nothing; FLIP (R108) is the CMD write with D[0] = 1. -/
def Obligations.CommandWordsFlipOrNothing : Prop :=
  ∀ (s : State) (d : Data),
    (d.getLsbD 0 = true → decode (txnWord true 0x008 d) = .flip) ∧
    (d.getLsbD 0 = false → decode (txnWord true 0x008 d) = .cmdNop d) ∧
    exec (.cmdNop d) s = .next { s with ready := true, rdata := 0 }

/-- STATUS_RD (R119) and BUF_RD (R120): the status bits, the slice word or 0, and nothing changes. -/
def Obligations.StatusAndBufferReads : Prop :=
  ∀ (s : State) (d : Data),
    (decode (txnWord false 0x004 d) = .statusRd ∧
      ∃ v : Data, exec .statusRd s = .next { s with ready := true, rdata := v } ∧
        v.getLsbD 0 = (s.queued != s.inUse) ∧ v.getLsbD 1 = s.inUse ∧ v.getLsbD 2 = s.queued ∧
        v.getLsbD 3 = s.en ∧ ∀ j, 4 ≤ j → v.getLsbD j = false) ∧
    ∀ (b : Bool) (i : BitVec 4),
      decode (txnWord false (BitVec.ofNat 12 (0x100 + 0x40 * b.toNat + 4 * i.toNat)) d) = .bufRd b i ∧
      (i.toNat < s.cfg.r → exec (.bufRd b i) s = .next { s with ready := true, rdata := s.bufAt b i.toNat }) ∧
      (s.cfg.r ≤ i.toNat → exec (.bufRd b i) s = .next { s with ready := true, rdata := 0 })

/-- R116: no transaction writes the active buffer or moves `in_use`; the sequencer writes no buffer; so a step without
reset leaves the buffer the next expiry reads as it was, and only a reset cycle clears both. -/
def Obligations.ActiveBufferNeverWritten : Prop :=
  (∀ (i : Instr) (s t : State), exec i s = .next t → t.inUse = s.inUse ∧ t.buf s.inUse = s.buf s.inUse) ∧
  (∀ (s : State) (tick b : Bool), (s.seqPhase tick).buf b = s.buf b) ∧
  ∀ s t : State, step s = .next t →
    (s.nextInput.rst = false → KeepsActiveBuffer s t) ∧
    (s.nextInput.rst = true → t.buf0 = List.replicate s.cfg.r 0 ∧ t.buf1 = List.replicate s.cfg.r 0)

/-- R117 and R128: a step commits `in_use <- queued` exactly at a boundary expiry; any other step without reset leaves
`in_use` alone. -/
def Obligations.CommitExactlyAtBoundaryExpiry : Prop :=
  ∀ s t : State, step s = .next t → s.nextInput.rst = false →
    (s.ExpiryEdge ∧ s.AtBoundary → t.inUse = s.queued) ∧ (¬ (s.ExpiryEdge ∧ s.AtBoundary) → t.inUse = s.inUse)

/-- R123: under every policy a FLIP in the cycle of a boundary expiry is performed after the commit, writes the buffer the
sweep has just left, never the newly active one, and requests a swap back; no FLIP moves the sweep, the timer or
the port. -/
def Obligations.FlipInBoundaryCycle : Prop :=
  (∀ s : State, s.cfg.Admitted → s.ExpiryEdge → s.AtBoundary → s.nextInput.presentsFlip →
    ∃ t, step s = .next t ∧ t.ready = true ∧ t.inUse = s.queued ∧ t.queued = !t.inUse ∧
      t.buf (!t.inUse) = encodeFrame s.cfg s.intensity ∧ t.buf t.inUse = s.buf t.inUse) ∧
  ∀ s t : State, exec .flip s = .next t →
    t.pwmOut = s.pwmOut ∧ t.slice = s.slice ∧ t.dir = s.dir ∧ t.cnt = s.cnt ∧ t.matchReg = s.matchReg

/-- R122: after a FLIP that requested a swap, through any cycles that the host presents without reset and without a further
FLIP that acts (one that WAIT holds or IGNORE absorbs may be presented), the frame of that FLIP stays in the buffer
`queued` names, pending or adopted. A boundary expiry makes that buffer the active one, whatever its cycle presents, and
`in_use = queued` unless a FLIP acts in that cycle. The frame is `encode` of the intensities staged in the cycle of the
FLIP. -/
def Obligations.SwapIsAtomic : Prop :=
  ∀ (s t u : State) (n : Nat), s.FlipActs → step s = .next t → t.queued = !t.inUse → n ≤ t.inputs.length →
    (∀ k, k < n → ∀ v, steps k t = some v → v.nextInput.rst = false ∧ ¬ v.FlipActs) → steps n t = some u →
    u.queued = t.queued ∧ u.buf u.queued = encodeFrame s.cfg s.intensity ∧
    (u.inUse = t.inUse ∨ u.inUse = u.queued) ∧
    ∀ v, u.ExpiryEdge → u.AtBoundary → step u = .next v →
      v.inUse = u.queued ∧ v.buf v.inUse = encodeFrame s.cfg s.intensity ∧ (¬ u.FlipActs → v.inUse = v.queued)

/-! ### The sweep (43_sweep.md) -/

/-- CTRL_WR (R137): D[0] = 1 sets EN and changes nothing else; D[0] = 0 clears EN and the sweep position and
makes the port inactive, and changes nothing else. -/
def Obligations.ControlWriteStartsOrStops : Prop :=
  ∀ (s : State) (d : Data), decode (txnWord true 0x000 d) = .ctrlWr d ∧
    (d.getLsbD 0 = true → exec (.ctrlWr d) s = .next { s with en := true, ready := true, rdata := 0 }) ∧
    (d.getLsbD 0 = false → exec (.ctrlWr d) s = .next { s with
      en := false, slice := 0, dir := .up, cnt := 0, matchReg := 0, pwmOut := s.cfg.inactive, ready := true,
      rdata := 0 }) ∧
    (s.Inv → d.getLsbD 0 = s.en → exec (.ctrlWr d) s = .next { s with ready := true, rdata := 0 })

/-- CTRL_RD, SEQ_RD, TCNT_RD, TMATCH_RD, PORTOUT_RD (R138 to R142): what they read, and that nothing changes. -/
def Obligations.SequencerReads : Prop :=
  ∀ (s : State) (d : Data),
    (decode (txnWord false 0x000 d) = .ctrlRd ∧
      exec .ctrlRd s = .next { s with ready := true, rdata := BitVec.ofNat 32 s.en.toNat }) ∧
    (decode (txnWord false 0x020 d) = .seqRd ∧
      ∃ v : Data, exec .seqRd s = .next { s with ready := true, rdata := v } ∧ v.extractLsb' 0 4 = s.slice ∧
        v.getLsbD 4 = decide (s.dir = .down) ∧ ∀ j, 5 ≤ j → v.getLsbD j = false) ∧
    (decode (txnWord false 0x024 d) = .tcntRd ∧ exec .tcntRd s = .next { s with ready := true, rdata := s.cnt }) ∧
    (decode (txnWord false 0x028 d) = .tmatchRd ∧
      exec .tmatchRd s = .next { s with ready := true, rdata := s.matchReg }) ∧
    (decode (txnWord false 0x02C d) = .portoutRd ∧
      exec .portoutRd s = .next { s with ready := true, rdata := s.pwmOut })

/-- R124: the periods of an admitted configuration, their bounds, and that with PERIOD_FLOOR <= M the period of slice
`i` is exactly `M << i`. -/
def Obligations.PeriodsAreGeometric : Prop :=
  ∀ (c : Config) (i : Nat), c.Admitted → i < c.r →
    c.period i = max (2 ^ c.minExp * 2 ^ i) c.periodFloor ∧ 1 ≤ c.period i ∧ c.period i ≤ c.pmax ∧
    c.pmax ≤ 2 ^ c.cntWidth ∧ (c.periodFloor ≤ 2 ^ c.minExp → c.period i = 2 ^ c.minExp * 2 ^ i)

/-- R125, in a cycle with no reset and no transaction: without a tick or with EN = 0 nothing of the machine changes; a tick with
`cnt` not at `match` adds one to `cnt`, which stays at most `match`, and changes nothing else. -/
def Obligations.TickCountsUpToMatch : Prop :=
  ∀ s : State, s.Inv → s.cfg.Admitted → s.nextInput.rst = false → s.nextInput.req = false →
    (s.en = false ∨ s.nextInput.tickEn = false →
      step s = .next { s with inputs := s.inputs.tail, ready := true, rdata := 0 }) ∧
    (s.en = true → s.nextInput.tickEn = true → s.cnt ≠ s.matchReg → ∃ t, step s = .next t ∧
      t.cnt.toNat = s.cnt.toNat + 1 ∧ t.cnt.toNat ≤ t.matchReg.toNat ∧
      t = { s with cnt := t.cnt, inputs := s.inputs.tail, ready := true, rdata := 0 })

/-- R126 with R127 in UNI mode, in a cycle with no transaction: the expiry reloads the timer for the current slice, puts that
slice of the active buffer on the port, and goes to the next slice, or wraps to 0 and commits. -/
def Obligations.ExpiryInUniMode : Prop :=
  ∀ s : State, s.Inv → s.cfg.Admitted → s.cfg.sweepMode = .uni → s.ExpiryEdge → s.nextInput.req = false →
    ∃ t, step s = .next t ∧ t.cnt = 0 ∧
      t.matchReg.toNat = max (2 ^ s.cfg.minExp * 2 ^ s.slice.toNat) s.cfg.periodFloor - 1 ∧
      t.pwmOut = s.bufAt s.inUse s.slice.toNat ^^^ s.cfg.inactive ∧ t.dir = .up ∧
      (s.slice.toNat + 1 < s.cfg.r → t.slice.toNat = s.slice.toNat + 1 ∧ t.inUse = s.inUse) ∧
      (s.slice.toNat + 1 = s.cfg.r → t.slice = 0 ∧ t.inUse = s.queued) ∧
      t = { s with cnt := t.cnt, matchReg := t.matchReg, pwmOut := t.pwmOut, slice := t.slice, dir := t.dir,
                   inUse := t.inUse, inputs := s.inputs.tail, ready := true, rdata := 0 }

/-- R126 with R127 in BIDI mode, in a cycle with no transaction: as in UNI mode, but the sweep reverses at slice R-1 going up and
at slice 0 going down, and each reversal commits. -/
def Obligations.ExpiryInBidiMode : Prop :=
  ∀ s : State, s.Inv → s.cfg.Admitted → s.cfg.sweepMode = .bidi → s.ExpiryEdge → s.nextInput.req = false →
    ∃ t, step s = .next t ∧ t.cnt = 0 ∧
      t.matchReg.toNat = max (2 ^ s.cfg.minExp * 2 ^ s.slice.toNat) s.cfg.periodFloor - 1 ∧
      t.pwmOut = s.bufAt s.inUse s.slice.toNat ^^^ s.cfg.inactive ∧
      (s.dir = .up → s.slice.toNat + 1 < s.cfg.r →
        t.slice.toNat = s.slice.toNat + 1 ∧ t.dir = .up ∧ t.inUse = s.inUse) ∧
      (s.dir = .up → s.slice.toNat + 1 = s.cfg.r →
        t.slice.toNat = s.cfg.r - 2 ∧ t.dir = .down ∧ t.inUse = s.queued) ∧
      (s.dir = .down → 0 < s.slice.toNat →
        t.slice.toNat = s.slice.toNat - 1 ∧ t.dir = .down ∧ t.inUse = s.inUse) ∧
      (s.dir = .down → s.slice = 0 →
        t.slice.toNat = (if s.cfg.r = 1 then 0 else 1) ∧ t.dir = .up ∧ t.inUse = s.queued) ∧
      t = { s with cnt := t.cnt, matchReg := t.matchReg, pwmOut := t.pwmOut, slice := t.slice, dir := t.dir,
                   inUse := t.inUse, inputs := s.inputs.tail, ready := true, rdata := 0 }

/-- R130: from a start, successive expiries output slices 0, 1, ..., R-1, 0, 1, ... of the buffer active at each of
them, and exactly those that output slice R-1 are boundaries. -/
def Obligations.UniSequence : Prop :=
  ∀ (s : State) (n : Nat), 1 ≤ s.cfg.r → s.cfg.r ≤ 16 → s.cfg.sweepMode = .uni → s.slice = 0 → s.dir = .up →
    let u := State.expiry^[n] s
    u.expiry.pwmOut = drive s.cfg (s.bufAt u.inUse (n % s.cfg.r)) ∧
    ((advance u.cfg u.slice u.dir).2.2 = true ↔ n % s.cfg.r = s.cfg.r - 1)

/-- R131: from a start in BIDI mode with R >= 2, expiry number `n` (from 0) outputs slice `p` going up and `2R - 2 - p` going
down, where `p` is `n mod (2R - 2)`; the boundaries are the expiries that output R-1 and, after the first expiry,
those that output 0. With R = 1 every expiry outputs slice 0 and is a boundary. -/
def Obligations.BidiSequence : Prop :=
  ∀ (s : State) (n : Nat), s.cfg.r ≤ 16 → s.cfg.sweepMode = .bidi → s.slice = 0 → s.dir = .up →
    let u := State.expiry^[n] s
    let p := n % (2 * s.cfg.r - 2)
    (2 ≤ s.cfg.r →
      u.expiry.pwmOut = drive s.cfg (s.bufAt u.inUse (if p < s.cfg.r then p else 2 * s.cfg.r - 2 - p)) ∧
      ((advance u.cfg u.slice u.dir).2.2 = true ↔ p = s.cfg.r - 1 ∨ (p = 0 ∧ 0 < n))) ∧
    (s.cfg.r = 1 → u.expiry.pwmOut = drive s.cfg (s.bufAt u.inUse 0) ∧
      (advance u.cfg u.slice u.dir).2.2 = true)

/-- R132: the value an expiry puts on the port stays there for exactly `period(s)` timer ticks, `s` the slice it output: in any
cycles that the host presents after it without reset and without a stop, as long as fewer than `period(s)` of them are ticks, the port keeps that
value, `cnt` is the number of those ticks, and the next tick is an expiry exactly when it is tick number `period(s)`. -/
def Obligations.SliceStaysForItsPeriod : Prop :=
  ∀ (s t u : State) (m : Nat), s.Inv → s.ExpiryEdge → ¬ s.nextInput.presentsStop → step s = .next t →
    m ≤ t.inputs.length → (∀ inp ∈ t.inputs.take m, inp.rst = false ∧ ¬ inp.presentsStop) →
    tickCount m t.inputs < s.cfg.period s.slice.toNat → steps m t = some u →
    u.pwmOut = drive s.cfg (s.bufAt s.inUse s.slice.toNat) ∧ u.en = true ∧ u.slice = t.slice ∧
    u.cnt.toNat = tickCount m t.inputs ∧
    (u.cnt = u.matchReg ↔ tickCount m t.inputs + 1 = s.cfg.period s.slice.toNat)

/-- R136: a stopped sequencer that is started, whatever other transactions but a stop come after, keeps the inactive port
until the first timer tick after the start, which is an expiry: it outputs slice 0 of the active buffer, loads
`period(0) - 1` and moves to slice 1, or stays at 0 when R = 1. A tick in the cycle of the start is none (EN was 0). -/
def Obligations.FirstTickAfterStartOutputsSliceZero : Prop :=
  ∀ (s : State) (first : CycleInput) (mid : List CycleInput) (tick : CycleInput) (rest : List CycleInput), s.Inv →
    s.cfg.Admitted → s.en = false → s.inputs = first :: (mid ++ tick :: rest) →
    first.rst = false → first.presentsStart →
    (∀ inp ∈ mid, inp.rst = false ∧ inp.tickEn = false ∧ ¬ inp.presentsStop) →
    tick.rst = false → tick.tickEn = true → ¬ tick.presentsStop →
    (∀ j, j ≤ mid.length → ∃ u, steps (j + 1) s = some u ∧ u.en = true ∧ u.pwmOut = s.cfg.inactive) ∧
    ∃ v, steps (mid.length + 2) s = some v ∧ v.pwmOut = drive s.cfg (s.bufAt s.inUse 0) ∧ v.cnt = 0 ∧
      v.matchReg.toNat = s.cfg.period 0 - 1 ∧ v.slice = (if s.cfg.r = 1 then 0 else 1)

/-! ### Staging, configuration and reserved accesses (44_register_access.md) -/

/-- INT_WR (R144): for c < N the channel's staged intensity becomes D[15:0] and nothing else changes; for c >= N nothing
changes. -/
def Obligations.IntensityWriteStages : Prop :=
  ∀ (s : State) (c : BitVec 5) (d : Data),
    decode (txnWord true (BitVec.ofNat 12 (0x080 + 4 * c.toNat)) d) = .intWr c d ∧
    (c.toNat < s.cfg.n → s.Shaped → ∃ t, exec (.intWr c d) s = .next t ∧
      (∀ j, t.intensityAt j = if j = c.toNat then d.extractLsb' 0 16 else s.intensityAt j) ∧
      t = { s with intensity := t.intensity, ready := true, rdata := 0 }) ∧
    (s.cfg.n ≤ c.toNat → exec (.intWr c d) s = .next { s with ready := true, rdata := 0 })

/-- INT_RD (R145): the raw staged value for c < N, else 0; and after an INT_WR of the same channel, what it wrote. -/
def Obligations.IntensityReadsBack : Prop :=
  ∀ (s : State) (c : BitVec 5) (d : Data),
    decode (txnWord false (BitVec.ofNat 12 (0x080 + 4 * c.toNat)) d) = .intRd c ∧
    exec (.intRd c) s = .next { s with
      ready := true, rdata := if c.toNat < s.cfg.n then BitVec.ofNat 32 (s.intensityAt c.toNat).toNat else 0 } ∧
    ∀ t, s.Shaped → exec (.intWr c d) s = .next t → exec (.intRd c) t = .next { t with
      ready := true, rdata := if c.toNat < s.cfg.n then BitVec.ofNat 32 (d.toNat % 65536) else 0 }

/-- CONFIG0_RD, CONFIG1_RD, CONFIG2_RD (R147, R148, R149): every field of R44, R45 and R46 in its place, for every
admitted configuration. -/
def Obligations.ConfigWordsReadBack : Prop :=
  ∀ (s : State) (d : Data), s.cfg.Admitted →
    (decode (txnWord false 0x014 d) = .config0Rd ∧
      ∃ v : Data, exec .config0Rd s = .next { s with ready := true, rdata := v } ∧
        v.toNat = s.cfg.r + 2 ^ 8 * s.cfg.n + 2 ^ 16 * s.cfg.minExp
          + (match s.cfg.sweepMode with | .uni => 0 | .bidi => 2 ^ 24)
          + 2 ^ 25 * (match s.cfg.swapPolicy with | .supersede => 0 | .ignore => 1 | .toggle => 2 | .wait => 3)
          + 2 ^ 27 * s.cfg.activeLow.toNat + 2 ^ 28 * s.cfg.lutShift) ∧
    (decode (txnWord false 0x018 d) = .config1Rd ∧
      ∃ v : Data, exec .config1Rd s = .next { s with ready := true, rdata := v } ∧
        v.toNat = s.cfg.portWidth + 2 ^ 8 * s.cfg.cntWidth) ∧
    (decode (txnWord false 0x01C d) = .config2Rd ∧
      ∃ v : Data, exec .config2Rd s = .next { s with ready := true, rdata := v } ∧ v.toNat = s.cfg.periodFloor)

/-- PINMASK_RD (R150): the channel's mask for c < N, else 0. -/
def Obligations.PinMaskReadsBack : Prop :=
  ∀ (s : State) (c : BitVec 5) (d : Data), s.cfg.Admitted →
    decode (txnWord false (BitVec.ofNat 12 (0x200 + 4 * c.toNat)) d) = .pinmaskRd c ∧
    ∃ v : Data, exec (.pinmaskRd c) s = .next { s with ready := true, rdata := v } ∧
      v.toNat = if c.toNat < s.cfg.n then s.cfg.pinMask.getD c.toNat 0 else 0

/-- RSV_RD (R151) reads 0, RSV_WR (R152) does nothing, whatever the address and the data, and a word no earlier row
takes decodes to them. -/
def Obligations.ReservedFormsDoNothing : Prop :=
  ∀ (s : State) (a : Addr) (d : Data),
    (isReservedRead a = true → decode (txnWord false a d) = .rsvRd a) ∧
    (isReservedWrite a = true → decode (txnWord true a d) = .rsvWr a d) ∧
    exec (.rsvRd a) s = .next { s with ready := true, rdata := 0 } ∧
    exec (.rsvWr a d) s = .next { s with ready := true, rdata := 0 }

/-! ### The machine (10_state.md, 20_memory.md, 60_exceptions.md, 70_reset_and_hazards.md, 00_scope.md) -/

/-- R64, R65: a step whose cycle presents a transaction is `exec` of the decoded transaction on the state after the sequencer
phase of that cycle, with the inputs of the cycle taken. -/
def Obligations.StepRunsDecodedInstruction : Prop :=
  ∀ (s : State) (inp : CycleInput) (rest : List CycleInput), s.cfg.Admitted → s.inputs = inp :: rest →
    inp.rst = false → inp.req = true →
    step s = exec (decode (txnWord inp.we inp.addr inp.wdata)) (State.seqPhase { s with inputs := rest } inp.tickEn) ∧
    ∀ i : Instr, i.wellFormed = true → txnWord inp.we inp.addr inp.wdata = encode i →
      step s = exec i (State.seqPhase { s with inputs := rest } inp.tickEn)

/-- R173 with R55: a reset cycle leads to RESET_STATE from any state, whatever else its cycle carries, performs no transaction,
and changes no parameter; a reset cycle after a reset cycle changes nothing more. -/
def Obligations.ResetCycleFromAnyState : Prop :=
  ∀ s : State, s.cfg.Admitted → s.nextInput.rst = true →
    ∃ t, step s = .next t ∧
      t = { cfg := s.cfg, en := false, intensity := List.replicate s.cfg.n 0,
            buf0 := List.replicate s.cfg.r 0, buf1 := List.replicate s.cfg.r 0, inUse := false, queued := false,
            slice := 0, dir := .up, cnt := 0, matchReg := 0, pwmOut := s.cfg.inactive, lutIn := 0,
            ready := false, rdata := 0, inputs := s.inputs.tail } ∧
      (t.nextInput.rst = true → step t = .next { t with inputs := t.inputs.tail })

/-- What the registers read right after reset (10_state.md section 9), for every admitted configuration. -/
def Obligations.RegistersAfterReset : Prop :=
  ∀ c : Config, c.Admitted →
    let s := State.resetFor c
    (∀ a ∈ ([0x000, 0x004, 0x008, 0x00C, 0x020, 0x024, 0x028] : List Addr), s.memRead a = 0) ∧
    (s.memRead 0x010).toNat = c.lutBaseAt 0 ∧ s.memRead 0x02C = c.inactive ∧
    ∀ a : Addr, (0x080 ≤ a ∧ a ≤ 0x0FF) ∨ (0x100 ≤ a ∧ a ≤ 0x17F) → s.memRead a = 0

/-- The invariant of R38 (I1 to I7) holds after reset, of every configuration. -/
def Obligations.InvariantAtReset : Prop := (∀ c : Config, (State.resetFor c).Inv) ∧ State.reset.Inv

/-- Every step keeps the invariant of R38 (I1 to I7), and the parameters. -/
def Obligations.StepKeepsInvariant : Prop :=
  ∀ s t : State, s.Inv → step s = .next t → t.Inv ∧ t.cfg = s.cfg

/-- R157: every transaction is performed in every state, and a step stops for no reason but a configuration that fails a check. That
the stop is a fault of `step` is the model's form of R158 (notes/assumptions/6.md). -/
def Obligations.OnlyConfigErrorStops : Prop :=
  (∀ (i : Instr) (s : State), ∃ t, exec i s = .next t) ∧
  ∀ s : State, ((∃ t, step s = .next t) ↔ s.cfg.Admitted) ∧ (∀ r, step s ≠ .refused r) ∧
    ∀ f, step s = .fault f ↔ ∃ k, s.cfg.firstFailure = some k ∧ f = .configError k

/-- R158: the error names the first failing check in the order CHK_R, CHK_PORT, CHK_N, CHK_PINS, CHK_MINEXP, CHK_FLOOR, CHK_CNT,
CHK_SHIFT, CHK_LUT_RANGE, CHK_LUT_MONO, CHK_ENUM. That the enumerated parameters of a build are numbers, below 2, 4 and 2
when they are in their sets, is the model's coding of them (notes/assumptions/6.md). -/
def Obligations.BuildNamesFirstFailingCheck : Prop :=
  ∀ (p : RawConfig) (k : ConfigCheck),
    let holds : ConfigCheck → Prop := fun j =>
      p.toNumParams.passes j = true ∧ (j = .chkEnum → p.sweepMode < 2 ∧ p.swapPolicy < 4 ∧ p.activeLow < 2)
    p.build = .error k ↔ ∃ pre post, [ConfigCheck.chkR, .chkPort, .chkN, .chkPins, .chkMinExp, .chkFloor, .chkCnt,
      .chkShift, .chkLutRange, .chkLutMono, .chkEnum] = pre ++ k :: post ∧ ¬ holds k ∧ ∀ j ∈ pre, holds j

/-- R21: a configuration is admitted exactly when every named check's condition holds. -/
def Obligations.AdmittedIffEveryCheckHolds : Prop :=
  ∀ c : Config, c.Admitted ↔
    (1 ≤ c.r ∧ c.r ≤ 16) ∧ (1 ≤ c.portWidth ∧ c.portWidth ≤ 32) ∧ (1 ≤ c.n ∧ c.n ≤ c.portWidth) ∧
    ((∀ i, i < c.n → c.pinMaskNat i ≠ 0 ∧ c.pinMaskNat i < 2 ^ c.portWidth) ∧
      ∀ i j, i < c.n → j < c.n → i ≠ j → c.pinMaskNat i &&& c.pinMaskNat j = 0) ∧
    c.minExp ≤ 31 ∧ (1 ≤ c.periodFloor ∧ c.periodFloor ≤ 2 ^ 32 - 1) ∧
    (1 ≤ c.cntWidth ∧ c.cntWidth ≤ 32 ∧ max (2 ^ c.minExp * 2 ^ (c.r - 1)) c.periodFloor ≤ 2 ^ c.cntWidth) ∧
    c.lutShift ≤ 15 ∧ (∀ k, k < 32 → c.lutBaseAt k ≤ 65535 ∧ c.lutSlopeAt k ≤ 65535) ∧
    ∀ k, k < 31 →
      min (c.lutBaseAt k + c.lutSlopeAt k * 2047 / 2 ^ c.lutShift) 65535 ≤ c.lutBaseAt (k + 1)

/-- R61: no read has a side effect; writes to CTRL, LUT_IN and INTENSITY are idempotent, and writing the current value of EN
changes nothing; writes to reserved slots and read-only registers have no effect; under TOGGLE two FLIPs differ from
one. -/
def Obligations.ReadsAndRepeatedWrites : Prop :=
  (∀ (i : Instr) (s : State), isRead i = true → ∃ v, exec i s = .next { s with ready := true, rdata := v }) ∧
  (∀ (i : Instr) (s t : State), ((∃ d, i = .ctrlWr d) ∨ (∃ d, i = .lutinWr d) ∨ ∃ c d, i = .intWr c d) →
    exec i s = .next t → exec i t = .next t) ∧
  (∀ (s : State) (d : Data), s.Inv → d.getLsbD 0 = s.en →
    exec (.ctrlWr d) s = .next { s with ready := true, rdata := 0 }) ∧
  (∀ (s : State) (a : Addr) (d : Data), isReservedWrite a = true →
    s.busPhase true a d = .next { s with ready := true, rdata := 0 }) ∧
  ∀ s t u : State, s.cfg.swapPolicy = .toggle → exec .flip s = .next t → exec .flip t = .next u → u.queued ≠ t.queued

/-- R185: a cycle ends with `ready = 0` exactly when it is a reset cycle or presents a FLIP under WAIT while, after its sequencer
phase, a swap is pending; a held FLIP leaves the state of the sequencer phase as it is. -/
def Obligations.OnlyWaitFlipAndResetHold : Prop :=
  ∀ s t : State, step s = .next t →
    let s1 := s.takeInput.seqPhase s.nextInput.tickEn
    (t.ready = false ↔ s.nextInput.rst = true ∨
      (s.nextInput.presentsFlip ∧ s.cfg.swapPolicy = .wait ∧ s1.queued ≠ s1.inUse)) ∧
    (t.ready = false → s.nextInput.rst = false → t = { s1 with ready := false, rdata := 0 })

/-- R180: under WAIT, with a swap pending and the sequencer stopped or no tick coming, a host that keeps presenting a FLIP is held in
every cycle, and nothing of the machine changes. -/
def Obligations.WaitDeadlock : Prop :=
  ∀ (s : State) (n : Nat), s.cfg.Admitted → s.cfg.swapPolicy = .wait → s.queued ≠ s.inUse → n < s.inputs.length →
    (∀ inp ∈ s.inputs.take (n + 1), inp.rst = false ∧ inp.presentsFlip ∧ (s.en = false ∨ inp.tickEn = false)) →
    steps (n + 1) s = some { s with inputs := s.inputs.drop (n + 1), ready := false, rdata := 0 }

/-- The writers R28 names: a transaction changes a field only if the field's rule is that transaction's; the sequencer phase
writes only `in_use`, `s`, `dir`, `cnt`, `match` and `pwm_out`. -/
def Obligations.EveryFieldHasItsWriters : Prop :=
  (∀ (i : Instr) (s t : State), exec i s = .next t →
    t.cfg = s.cfg ∧ t.inputs = s.inputs ∧ t.inUse = s.inUse ∧
    (t.en ≠ s.en ∨ t.slice ≠ s.slice ∨ t.dir ≠ s.dir ∨ t.cnt ≠ s.cnt ∨ t.matchReg ≠ s.matchReg ∨
      t.pwmOut ≠ s.pwmOut → ∃ d, i = .ctrlWr d) ∧
    (t.intensity ≠ s.intensity → ∃ c d, i = .intWr c d) ∧
    (t.buf0 ≠ s.buf0 ∨ t.buf1 ≠ s.buf1 ∨ t.queued ≠ s.queued → i = .flip) ∧
    (t.lutIn ≠ s.lutIn → ∃ d, i = .lutinWr d)) ∧
  ∀ (s : State) (tick : Bool), let t := s.seqPhase tick
    t = { s with inUse := t.inUse, slice := t.slice, dir := t.dir, cnt := t.cnt, matchReg := t.matchReg,
                 pwmOut := t.pwmOut }

/-- R176: the boot sequence, from any state, with one or more reset cycles and with PWM_FLIP and START in either order, takes
one cycle per SET of a nonzero intensity besides the reset cycles and the last two, and leaves the reset state with
the intensities staged, their frame in BUF[1], the swap to it requested and the sequencer running. -/
def Obligations.BootStagesFirstFrame : Prop :=
  ∀ (s : State) (more : Nat) (startFirst : Bool) (ints : List Intensity) (rest : List CycleInput), s.cfg.Admitted →
    ints.length = s.cfg.n → s.inputs = (bootLines more startFirst ints).map HostLine.cycle ++ rest →
    (bootLines more startFirst ints).length = more + 1 + ints.countP (· != 0) + 2 ∧
    steps (bootLines more startFirst ints).length s = some { State.resetFor s.cfg with
      en := true, intensity := ints, buf1 := encodeFrame s.cfg ints, queued := true, ready := true, inputs := rest }
end

