-- ==== Sys2Proof/Laws/Params.lean ====
section
/-! SUPPORT. What an admitted configuration gives (00_scope.md R20, R21), and the values that fit a field of CNT_WIDTH bits. -/

namespace Sys2Proof

/-- An admitted configuration passes each check. -/
theorem NumParams.Admitted.passes {p : NumParams} (h : p.Admitted) (k : ConfigCheck) : p.passes k = true := by
  have hk := List.find?_eq_none.mp h k (by cases k <;> decide)
  simpa using hk

/-- A configuration that passes each check is admitted. -/
theorem NumParams.admitted_of_passes {p : NumParams} (h : ∀ k, p.passes k = true) : p.Admitted :=
  List.find?_eq_none.mpr fun k _ => by simp [h k]

/-- CHK_R in arithmetic. -/
theorem NumParams.passes_chkR {p : NumParams} : p.passes .chkR = true ↔ 1 ≤ p.r ∧ p.r ≤ 16 := by
  simp [NumParams.passes]

/-- CHK_CNT in arithmetic. -/
theorem NumParams.passes_chkCnt {p : NumParams} :
    p.passes .chkCnt = true ↔ 1 ≤ p.cntWidth ∧ p.cntWidth ≤ 32 ∧ p.pmax ≤ 2 ^ p.cntWidth := by
  simp [NumParams.passes, and_assoc]

/-- CHK_PINS in arithmetic. -/
theorem NumParams.passes_chkPins {p : NumParams} :
    p.passes .chkPins = true ↔
      (∀ c, c < p.n → p.pinMaskNat c ≠ 0 ∧ p.pinMaskNat c < 2 ^ p.portWidth) ∧
      ∀ c d, c < p.n → d < p.n → c ≠ d → p.pinMaskNat c &&& p.pinMaskNat d = 0 := by
  simp only [NumParams.passes, NumParams.masksDisjoint, Bool.and_eq_true, List.all_eq_true, List.mem_range, bne_iff_ne,
    decide_eq_true_eq, Bool.or_eq_true, beq_iff_eq]
  refine and_congr_right fun _ => ⟨fun h c d hc hd hne => (h c hc d hd).resolve_left hne, fun h c hc d hd => ?_⟩
  exact or_iff_not_imp_left.mpr (h c d hc hd)

/-- A period in arithmetic (R20). -/
theorem NumParams.period_eq (p : NumParams) (i : Nat) : p.period i = max (2 ^ p.minExp * 2 ^ i) p.periodFloor := by
  simp [NumParams.period, NumParams.quantum, Nat.shiftLeft_eq]

/-- A period is at least one tick. -/
theorem NumParams.period_pos (p : NumParams) (i : Nat) : 1 ≤ p.period i := by
  rw [p.period_eq]
  exact le_max_of_le_left (Nat.mul_pos (Nat.two_pow_pos _) (Nat.two_pow_pos _))

/-- Periods grow with the index. -/
theorem NumParams.period_mono (p : NumParams) {i j : Nat} (h : i ≤ j) : p.period i ≤ p.period j := by
  rw [p.period_eq, p.period_eq]
  exact max_le_max_right _ (Nat.mul_le_mul_left _ (Nat.pow_le_pow_right (by decide) h))

/-- PMAX bounds the periods of the slices. -/
theorem NumParams.period_le_pmax (p : NumParams) {i : Nat} (h : i ≤ p.r - 1) : p.period i ≤ p.pmax := p.period_mono h

/-- In an admitted configuration the periods fit the counter (43_sweep.md R124). -/
theorem NumParams.Admitted.pmax_le {p : NumParams} (h : p.Admitted) : p.pmax ≤ 2 ^ p.cntWidth ∧ p.cntWidth ≤ 32 := by
  have := p.passes_chkCnt.mp (h.passes .chkCnt)
  omega

/-- A value below `2^CNT_WIDTH` is written whole. -/
theorem Machine.toCntWidth_toNat (c : Config) (v : Nat) (hw : c.cntWidth ≤ 32) (hv : v < 2 ^ c.cntWidth) :
    (Machine.toCntWidth c v).toNat = v := by
  have h32 : v < 2 ^ 32 := lt_of_lt_of_le hv (Nat.pow_le_pow_right (by decide) hw)
  rw [Machine.toCntWidth, BitVec.toNat_ofNat, Nat.mod_eq_of_lt hv, Nat.mod_eq_of_lt h32]

/-- Whatever is written to a counter field is at most `v`. -/
theorem Machine.toCntWidth_toNat_le (c : Config) (v : Nat) : (Machine.toCntWidth c v).toNat ≤ v := by
  rw [Machine.toCntWidth, BitVec.toNat_ofNat]
  exact (Nat.mod_le _ _).trans (Nat.mod_le _ _)

end Sys2Proof
end

