-- ==== Sys2Proof/Laws/Encoder.lean ====
section
/-! SUPPORT. The OR of a list of words, the frame of the encoder slot by slot (41_encoder.md R98), and the lookup table in
arithmetic (40_lut.md R85, R86). -/

namespace Sys2Proof

/-- A bit of an OR is set exactly when it is set in a word of the list. -/
theorem getLsbD_orAll (ws : List Data) (j : Nat) : (orAll ws).getLsbD j = ws.any (·.getLsbD j) := by
  induction ws with
  | nil => simp [orAll]
  | cons w ws ih => simp [orAll, ih]

/-- A bit of CHAN_PINS is set exactly when it is a pin of a channel (00_scope.md R20). -/
theorem NumParams.getLsbD_chanPins (p : NumParams) (j : Nat) :
    p.chanPins.getLsbD j = true ↔ ∃ c, c < p.n ∧ (p.pinMaskAt c).getLsbD j = true := by
  simp [NumParams.chanPins, getLsbD_orAll]

/-- Two channels of a configuration with disjoint masks share no pin (CHK_PINS of R21). -/
theorem NumParams.pin_unique {p : NumParams} (h : p.passes .chkPins = true) {c d j : Nat} (hc : c < p.n) (hd : d < p.n)
    (hcj : (p.pinMaskAt c).getLsbD j = true) (hdj : (p.pinMaskAt d).getLsbD j = true) : c = d := by
  by_contra hne
  have h0 := (p.passes_chkPins.mp h).2 c d hc hd hne
  have hj := congrArg (Nat.testBit · j) h0
  simp only [NumParams.pinMaskAt, BitVec.getLsbD_ofNat, Bool.and_eq_true] at hcj hdj
  simp [Nat.testBit_and, hcj.2, hdj.2] at hj

namespace Machine

/-- A bit of a slice word is set exactly when it is a pin of a channel that is on in the slice (R98, R99). -/
theorem getLsbD_sliceWord (c : Config) (ints : List Intensity) (i j : Nat) :
    (sliceWord c ints i).getLsbD j = true ↔
      ∃ ch, ch < c.n ∧ channelOn c (ints.getD ch 0) i = true ∧ (c.pinMaskAt ch).getLsbD j = true := by
  simp only [sliceWord, getLsbD_orAll, List.any_map, List.any_eq_true, List.mem_range, Function.comp]
  refine exists_congr fun ch => and_congr_right fun _ => ?_
  by_cases hon : channelOn c (ints.getD ch 0) i = true
  · rw [if_pos hon]; simp only [hon, true_and]
  · rw [if_neg hon]; exact ⟨fun h => by simp at h, fun h => absurd h.1 hon⟩

/-- A frame has R slice words. -/
@[simp] theorem length_encodeFrame (c : Config) (ints : List Intensity) : (encodeFrame c ints).length = c.r := by
  simp [encodeFrame]

/-- Slot `i` of a frame is slice word `i`. -/
theorem getElem?_encodeFrame (c : Config) (ints : List Intensity) (i : Nat) :
    (encodeFrame c ints)[i]? = if i < c.r then some (sliceWord c ints i) else none := by
  unfold encodeFrame
  split <;> simp_all

/-- `correct` on numbers: the quotient by 2048 is the node, the remainder the offset (R85, R86). -/
theorem correct_eq_sat16 (c : Config) (x : Intensity) :
    correct c x = BitVec.ofNat 16 (sat16 (c.lutSum (x.toNat / 2048) (x.toNat % 2048))) := by
  have hx := x.isLt
  have h1 : (x.extractLsb' 11 5).toNat = x.toNat / 2048 := by
    simp only [BitVec.extractLsb'_toNat, Nat.shiftRight_eq_div_pow]
    omega
  have h2 : (x.extractLsb' 0 11).toNat = x.toNat % 2048 := by
    simp [BitVec.extractLsb'_toNat]
  rw [correct, h1, h2]

/-- The saturated sum fits 16 bits, so nothing is lost (R87). -/
theorem toNat_ofNat_sat16 (v : Nat) : (BitVec.ofNat 16 (sat16 v)).toNat = min v 65535 := by
  simp only [sat16, BitVec.toNat_ofNat]
  omega

end Machine

end Sys2Proof
end

