-- ==== Sys2Proof/Laws/State.lean ====
section
/-! SUPPORT. One lemma per field per update of the state, so that no proof unfolds a record update. -/

namespace Sys2Proof.Machine

/-! ### `State.readReply` -/

@[simp] theorem State.readReply_cfg (s : State) (v : Data) : (s.readReply v).cfg = s.cfg := rfl
@[simp] theorem State.readReply_en (s : State) (v : Data) : (s.readReply v).en = s.en := rfl
@[simp] theorem State.readReply_intensity (s : State) (v : Data) : (s.readReply v).intensity = s.intensity := rfl
@[simp] theorem State.readReply_buf0 (s : State) (v : Data) : (s.readReply v).buf0 = s.buf0 := rfl
@[simp] theorem State.readReply_buf1 (s : State) (v : Data) : (s.readReply v).buf1 = s.buf1 := rfl
@[simp] theorem State.readReply_inUse (s : State) (v : Data) : (s.readReply v).inUse = s.inUse := rfl
@[simp] theorem State.readReply_queued (s : State) (v : Data) : (s.readReply v).queued = s.queued := rfl
@[simp] theorem State.readReply_slice (s : State) (v : Data) : (s.readReply v).slice = s.slice := rfl
@[simp] theorem State.readReply_dir (s : State) (v : Data) : (s.readReply v).dir = s.dir := rfl
@[simp] theorem State.readReply_cnt (s : State) (v : Data) : (s.readReply v).cnt = s.cnt := rfl
@[simp] theorem State.readReply_matchReg (s : State) (v : Data) : (s.readReply v).matchReg = s.matchReg := rfl
@[simp] theorem State.readReply_pwmOut (s : State) (v : Data) : (s.readReply v).pwmOut = s.pwmOut := rfl
@[simp] theorem State.readReply_lutIn (s : State) (v : Data) : (s.readReply v).lutIn = s.lutIn := rfl
@[simp] theorem State.readReply_ready (s : State) (v : Data) : (s.readReply v).ready = true := rfl
@[simp] theorem State.readReply_rdata (s : State) (v : Data) : (s.readReply v).rdata = v := rfl
@[simp] theorem State.readReply_inputs (s : State) (v : Data) : (s.readReply v).inputs = s.inputs := rfl

/-! ### `State.writeReply` -/

@[simp] theorem State.writeReply_cfg (s : State) : (s.writeReply).cfg = s.cfg := rfl
@[simp] theorem State.writeReply_en (s : State) : (s.writeReply).en = s.en := rfl
@[simp] theorem State.writeReply_intensity (s : State) : (s.writeReply).intensity = s.intensity := rfl
@[simp] theorem State.writeReply_buf0 (s : State) : (s.writeReply).buf0 = s.buf0 := rfl
@[simp] theorem State.writeReply_buf1 (s : State) : (s.writeReply).buf1 = s.buf1 := rfl
@[simp] theorem State.writeReply_inUse (s : State) : (s.writeReply).inUse = s.inUse := rfl
@[simp] theorem State.writeReply_queued (s : State) : (s.writeReply).queued = s.queued := rfl
@[simp] theorem State.writeReply_slice (s : State) : (s.writeReply).slice = s.slice := rfl
@[simp] theorem State.writeReply_dir (s : State) : (s.writeReply).dir = s.dir := rfl
@[simp] theorem State.writeReply_cnt (s : State) : (s.writeReply).cnt = s.cnt := rfl
@[simp] theorem State.writeReply_matchReg (s : State) : (s.writeReply).matchReg = s.matchReg := rfl
@[simp] theorem State.writeReply_pwmOut (s : State) : (s.writeReply).pwmOut = s.pwmOut := rfl
@[simp] theorem State.writeReply_lutIn (s : State) : (s.writeReply).lutIn = s.lutIn := rfl
@[simp] theorem State.writeReply_ready (s : State) : (s.writeReply).ready = true := rfl
@[simp] theorem State.writeReply_rdata (s : State) : (s.writeReply).rdata = 0 := rfl
@[simp] theorem State.writeReply_inputs (s : State) : (s.writeReply).inputs = s.inputs := rfl

/-! ### `State.holdReply` -/

@[simp] theorem State.holdReply_cfg (s : State) : (s.holdReply).cfg = s.cfg := rfl
@[simp] theorem State.holdReply_en (s : State) : (s.holdReply).en = s.en := rfl
@[simp] theorem State.holdReply_intensity (s : State) : (s.holdReply).intensity = s.intensity := rfl
@[simp] theorem State.holdReply_buf0 (s : State) : (s.holdReply).buf0 = s.buf0 := rfl
@[simp] theorem State.holdReply_buf1 (s : State) : (s.holdReply).buf1 = s.buf1 := rfl
@[simp] theorem State.holdReply_inUse (s : State) : (s.holdReply).inUse = s.inUse := rfl
@[simp] theorem State.holdReply_queued (s : State) : (s.holdReply).queued = s.queued := rfl
@[simp] theorem State.holdReply_slice (s : State) : (s.holdReply).slice = s.slice := rfl
@[simp] theorem State.holdReply_dir (s : State) : (s.holdReply).dir = s.dir := rfl
@[simp] theorem State.holdReply_cnt (s : State) : (s.holdReply).cnt = s.cnt := rfl
@[simp] theorem State.holdReply_matchReg (s : State) : (s.holdReply).matchReg = s.matchReg := rfl
@[simp] theorem State.holdReply_pwmOut (s : State) : (s.holdReply).pwmOut = s.pwmOut := rfl
@[simp] theorem State.holdReply_lutIn (s : State) : (s.holdReply).lutIn = s.lutIn := rfl
@[simp] theorem State.holdReply_ready (s : State) : (s.holdReply).ready = false := rfl
@[simp] theorem State.holdReply_rdata (s : State) : (s.holdReply).rdata = 0 := rfl
@[simp] theorem State.holdReply_inputs (s : State) : (s.holdReply).inputs = s.inputs := rfl

/-! ### `State.setLutIn` -/

@[simp] theorem State.setLutIn_cfg (s : State) (v : Intensity) : (s.setLutIn v).cfg = s.cfg := rfl
@[simp] theorem State.setLutIn_en (s : State) (v : Intensity) : (s.setLutIn v).en = s.en := rfl
@[simp] theorem State.setLutIn_intensity (s : State) (v : Intensity) : (s.setLutIn v).intensity = s.intensity := rfl
@[simp] theorem State.setLutIn_buf0 (s : State) (v : Intensity) : (s.setLutIn v).buf0 = s.buf0 := rfl
@[simp] theorem State.setLutIn_buf1 (s : State) (v : Intensity) : (s.setLutIn v).buf1 = s.buf1 := rfl
@[simp] theorem State.setLutIn_inUse (s : State) (v : Intensity) : (s.setLutIn v).inUse = s.inUse := rfl
@[simp] theorem State.setLutIn_queued (s : State) (v : Intensity) : (s.setLutIn v).queued = s.queued := rfl
@[simp] theorem State.setLutIn_slice (s : State) (v : Intensity) : (s.setLutIn v).slice = s.slice := rfl
@[simp] theorem State.setLutIn_dir (s : State) (v : Intensity) : (s.setLutIn v).dir = s.dir := rfl
@[simp] theorem State.setLutIn_cnt (s : State) (v : Intensity) : (s.setLutIn v).cnt = s.cnt := rfl
@[simp] theorem State.setLutIn_matchReg (s : State) (v : Intensity) : (s.setLutIn v).matchReg = s.matchReg := rfl
@[simp] theorem State.setLutIn_pwmOut (s : State) (v : Intensity) : (s.setLutIn v).pwmOut = s.pwmOut := rfl
@[simp] theorem State.setLutIn_lutIn (s : State) (v : Intensity) : (s.setLutIn v).lutIn = v := rfl
@[simp] theorem State.setLutIn_ready (s : State) (v : Intensity) : (s.setLutIn v).ready = s.ready := rfl
@[simp] theorem State.setLutIn_rdata (s : State) (v : Intensity) : (s.setLutIn v).rdata = s.rdata := rfl
@[simp] theorem State.setLutIn_inputs (s : State) (v : Intensity) : (s.setLutIn v).inputs = s.inputs := rfl

/-! ### `State.setQueued` -/

@[simp] theorem State.setQueued_cfg (s : State) (b : Bool) : (s.setQueued b).cfg = s.cfg := rfl
@[simp] theorem State.setQueued_en (s : State) (b : Bool) : (s.setQueued b).en = s.en := rfl
@[simp] theorem State.setQueued_intensity (s : State) (b : Bool) : (s.setQueued b).intensity = s.intensity := rfl
@[simp] theorem State.setQueued_buf0 (s : State) (b : Bool) : (s.setQueued b).buf0 = s.buf0 := rfl
@[simp] theorem State.setQueued_buf1 (s : State) (b : Bool) : (s.setQueued b).buf1 = s.buf1 := rfl
@[simp] theorem State.setQueued_inUse (s : State) (b : Bool) : (s.setQueued b).inUse = s.inUse := rfl
@[simp] theorem State.setQueued_queued (s : State) (b : Bool) : (s.setQueued b).queued = b := rfl
@[simp] theorem State.setQueued_slice (s : State) (b : Bool) : (s.setQueued b).slice = s.slice := rfl
@[simp] theorem State.setQueued_dir (s : State) (b : Bool) : (s.setQueued b).dir = s.dir := rfl
@[simp] theorem State.setQueued_cnt (s : State) (b : Bool) : (s.setQueued b).cnt = s.cnt := rfl
@[simp] theorem State.setQueued_matchReg (s : State) (b : Bool) : (s.setQueued b).matchReg = s.matchReg := rfl
@[simp] theorem State.setQueued_pwmOut (s : State) (b : Bool) : (s.setQueued b).pwmOut = s.pwmOut := rfl
@[simp] theorem State.setQueued_lutIn (s : State) (b : Bool) : (s.setQueued b).lutIn = s.lutIn := rfl
@[simp] theorem State.setQueued_ready (s : State) (b : Bool) : (s.setQueued b).ready = s.ready := rfl
@[simp] theorem State.setQueued_rdata (s : State) (b : Bool) : (s.setQueued b).rdata = s.rdata := rfl
@[simp] theorem State.setQueued_inputs (s : State) (b : Bool) : (s.setQueued b).inputs = s.inputs := rfl

/-! ### `State.start` -/

@[simp] theorem State.start_cfg (s : State) : (s.start).cfg = s.cfg := rfl
@[simp] theorem State.start_en (s : State) : (s.start).en = true := rfl
@[simp] theorem State.start_intensity (s : State) : (s.start).intensity = s.intensity := rfl
@[simp] theorem State.start_buf0 (s : State) : (s.start).buf0 = s.buf0 := rfl
@[simp] theorem State.start_buf1 (s : State) : (s.start).buf1 = s.buf1 := rfl
@[simp] theorem State.start_inUse (s : State) : (s.start).inUse = s.inUse := rfl
@[simp] theorem State.start_queued (s : State) : (s.start).queued = s.queued := rfl
@[simp] theorem State.start_slice (s : State) : (s.start).slice = s.slice := rfl
@[simp] theorem State.start_dir (s : State) : (s.start).dir = s.dir := rfl
@[simp] theorem State.start_cnt (s : State) : (s.start).cnt = s.cnt := rfl
@[simp] theorem State.start_matchReg (s : State) : (s.start).matchReg = s.matchReg := rfl
@[simp] theorem State.start_pwmOut (s : State) : (s.start).pwmOut = s.pwmOut := rfl
@[simp] theorem State.start_lutIn (s : State) : (s.start).lutIn = s.lutIn := rfl
@[simp] theorem State.start_ready (s : State) : (s.start).ready = s.ready := rfl
@[simp] theorem State.start_rdata (s : State) : (s.start).rdata = s.rdata := rfl
@[simp] theorem State.start_inputs (s : State) : (s.start).inputs = s.inputs := rfl

/-! ### `State.stop` -/

@[simp] theorem State.stop_cfg (s : State) : (s.stop).cfg = s.cfg := rfl
@[simp] theorem State.stop_en (s : State) : (s.stop).en = false := rfl
@[simp] theorem State.stop_intensity (s : State) : (s.stop).intensity = s.intensity := rfl
@[simp] theorem State.stop_buf0 (s : State) : (s.stop).buf0 = s.buf0 := rfl
@[simp] theorem State.stop_buf1 (s : State) : (s.stop).buf1 = s.buf1 := rfl
@[simp] theorem State.stop_inUse (s : State) : (s.stop).inUse = s.inUse := rfl
@[simp] theorem State.stop_queued (s : State) : (s.stop).queued = s.queued := rfl
@[simp] theorem State.stop_slice (s : State) : (s.stop).slice = 0 := rfl
@[simp] theorem State.stop_dir (s : State) : (s.stop).dir = .up := rfl
@[simp] theorem State.stop_cnt (s : State) : (s.stop).cnt = 0 := rfl
@[simp] theorem State.stop_matchReg (s : State) : (s.stop).matchReg = 0 := rfl
@[simp] theorem State.stop_pwmOut (s : State) : (s.stop).pwmOut = s.cfg.inactive := rfl
@[simp] theorem State.stop_lutIn (s : State) : (s.stop).lutIn = s.lutIn := rfl
@[simp] theorem State.stop_ready (s : State) : (s.stop).ready = s.ready := rfl
@[simp] theorem State.stop_rdata (s : State) : (s.stop).rdata = s.rdata := rfl
@[simp] theorem State.stop_inputs (s : State) : (s.stop).inputs = s.inputs := rfl

/-! ### `State.swapCommit` -/

@[simp] theorem State.swapCommit_cfg (s : State) : (s.swapCommit).cfg = s.cfg := rfl
@[simp] theorem State.swapCommit_en (s : State) : (s.swapCommit).en = s.en := rfl
@[simp] theorem State.swapCommit_intensity (s : State) : (s.swapCommit).intensity = s.intensity := rfl
@[simp] theorem State.swapCommit_buf0 (s : State) : (s.swapCommit).buf0 = s.buf0 := rfl
@[simp] theorem State.swapCommit_buf1 (s : State) : (s.swapCommit).buf1 = s.buf1 := rfl
@[simp] theorem State.swapCommit_inUse (s : State) : (s.swapCommit).inUse = s.queued := rfl
@[simp] theorem State.swapCommit_queued (s : State) : (s.swapCommit).queued = s.queued := rfl
@[simp] theorem State.swapCommit_slice (s : State) : (s.swapCommit).slice = s.slice := rfl
@[simp] theorem State.swapCommit_dir (s : State) : (s.swapCommit).dir = s.dir := rfl
@[simp] theorem State.swapCommit_cnt (s : State) : (s.swapCommit).cnt = s.cnt := rfl
@[simp] theorem State.swapCommit_matchReg (s : State) : (s.swapCommit).matchReg = s.matchReg := rfl
@[simp] theorem State.swapCommit_pwmOut (s : State) : (s.swapCommit).pwmOut = s.pwmOut := rfl
@[simp] theorem State.swapCommit_lutIn (s : State) : (s.swapCommit).lutIn = s.lutIn := rfl
@[simp] theorem State.swapCommit_ready (s : State) : (s.swapCommit).ready = s.ready := rfl
@[simp] theorem State.swapCommit_rdata (s : State) : (s.swapCommit).rdata = s.rdata := rfl
@[simp] theorem State.swapCommit_inputs (s : State) : (s.swapCommit).inputs = s.inputs := rfl

/-! ### `State.outputSlice` -/

@[simp] theorem State.outputSlice_cfg (s : State) : (s.outputSlice).cfg = s.cfg := rfl
@[simp] theorem State.outputSlice_en (s : State) : (s.outputSlice).en = s.en := rfl
@[simp] theorem State.outputSlice_intensity (s : State) : (s.outputSlice).intensity = s.intensity := rfl
@[simp] theorem State.outputSlice_buf0 (s : State) : (s.outputSlice).buf0 = s.buf0 := rfl
@[simp] theorem State.outputSlice_buf1 (s : State) : (s.outputSlice).buf1 = s.buf1 := rfl
@[simp] theorem State.outputSlice_inUse (s : State) : (s.outputSlice).inUse = s.inUse := rfl
@[simp] theorem State.outputSlice_queued (s : State) : (s.outputSlice).queued = s.queued := rfl
@[simp] theorem State.outputSlice_slice (s : State) : (s.outputSlice).slice = s.slice := rfl
@[simp] theorem State.outputSlice_dir (s : State) : (s.outputSlice).dir = s.dir := rfl
@[simp] theorem State.outputSlice_cnt (s : State) : (s.outputSlice).cnt = 0 := rfl
@[simp] theorem State.outputSlice_matchReg (s : State) : (s.outputSlice).matchReg = toCntWidth s.cfg (s.cfg.period s.slice.toNat - 1) := rfl
@[simp] theorem State.outputSlice_pwmOut (s : State) : (s.outputSlice).pwmOut = drive s.cfg (s.bufAt s.inUse s.slice.toNat) := rfl
@[simp] theorem State.outputSlice_lutIn (s : State) : (s.outputSlice).lutIn = s.lutIn := rfl
@[simp] theorem State.outputSlice_ready (s : State) : (s.outputSlice).ready = s.ready := rfl
@[simp] theorem State.outputSlice_rdata (s : State) : (s.outputSlice).rdata = s.rdata := rfl
@[simp] theorem State.outputSlice_inputs (s : State) : (s.outputSlice).inputs = s.inputs := rfl

/-! ### `State.countTick` -/

@[simp] theorem State.countTick_cfg (s : State) : (s.countTick).cfg = s.cfg := rfl
@[simp] theorem State.countTick_en (s : State) : (s.countTick).en = s.en := rfl
@[simp] theorem State.countTick_intensity (s : State) : (s.countTick).intensity = s.intensity := rfl
@[simp] theorem State.countTick_buf0 (s : State) : (s.countTick).buf0 = s.buf0 := rfl
@[simp] theorem State.countTick_buf1 (s : State) : (s.countTick).buf1 = s.buf1 := rfl
@[simp] theorem State.countTick_inUse (s : State) : (s.countTick).inUse = s.inUse := rfl
@[simp] theorem State.countTick_queued (s : State) : (s.countTick).queued = s.queued := rfl
@[simp] theorem State.countTick_slice (s : State) : (s.countTick).slice = s.slice := rfl
@[simp] theorem State.countTick_dir (s : State) : (s.countTick).dir = s.dir := rfl
@[simp] theorem State.countTick_cnt (s : State) : (s.countTick).cnt = toCntWidth s.cfg (s.cnt.toNat + 1) := rfl
@[simp] theorem State.countTick_matchReg (s : State) : (s.countTick).matchReg = s.matchReg := rfl
@[simp] theorem State.countTick_pwmOut (s : State) : (s.countTick).pwmOut = s.pwmOut := rfl
@[simp] theorem State.countTick_lutIn (s : State) : (s.countTick).lutIn = s.lutIn := rfl
@[simp] theorem State.countTick_ready (s : State) : (s.countTick).ready = s.ready := rfl
@[simp] theorem State.countTick_rdata (s : State) : (s.countTick).rdata = s.rdata := rfl
@[simp] theorem State.countTick_inputs (s : State) : (s.countTick).inputs = s.inputs := rfl

/-! ### `State.takeInput` -/

@[simp] theorem State.takeInput_cfg (s : State) : (s.takeInput).cfg = s.cfg := rfl
@[simp] theorem State.takeInput_en (s : State) : (s.takeInput).en = s.en := rfl
@[simp] theorem State.takeInput_intensity (s : State) : (s.takeInput).intensity = s.intensity := rfl
@[simp] theorem State.takeInput_buf0 (s : State) : (s.takeInput).buf0 = s.buf0 := rfl
@[simp] theorem State.takeInput_buf1 (s : State) : (s.takeInput).buf1 = s.buf1 := rfl
@[simp] theorem State.takeInput_inUse (s : State) : (s.takeInput).inUse = s.inUse := rfl
@[simp] theorem State.takeInput_queued (s : State) : (s.takeInput).queued = s.queued := rfl
@[simp] theorem State.takeInput_slice (s : State) : (s.takeInput).slice = s.slice := rfl
@[simp] theorem State.takeInput_dir (s : State) : (s.takeInput).dir = s.dir := rfl
@[simp] theorem State.takeInput_cnt (s : State) : (s.takeInput).cnt = s.cnt := rfl
@[simp] theorem State.takeInput_matchReg (s : State) : (s.takeInput).matchReg = s.matchReg := rfl
@[simp] theorem State.takeInput_pwmOut (s : State) : (s.takeInput).pwmOut = s.pwmOut := rfl
@[simp] theorem State.takeInput_lutIn (s : State) : (s.takeInput).lutIn = s.lutIn := rfl
@[simp] theorem State.takeInput_ready (s : State) : (s.takeInput).ready = s.ready := rfl
@[simp] theorem State.takeInput_rdata (s : State) : (s.takeInput).rdata = s.rdata := rfl
@[simp] theorem State.takeInput_inputs (s : State) : (s.takeInput).inputs = s.inputs.tail := rfl

/-! ### `State.present` -/

@[simp] theorem State.present_cfg (s : State) (inp : CycleInput) : (s.present inp).cfg = s.cfg := rfl
@[simp] theorem State.present_en (s : State) (inp : CycleInput) : (s.present inp).en = s.en := rfl
@[simp] theorem State.present_intensity (s : State) (inp : CycleInput) : (s.present inp).intensity = s.intensity := rfl
@[simp] theorem State.present_buf0 (s : State) (inp : CycleInput) : (s.present inp).buf0 = s.buf0 := rfl
@[simp] theorem State.present_buf1 (s : State) (inp : CycleInput) : (s.present inp).buf1 = s.buf1 := rfl
@[simp] theorem State.present_inUse (s : State) (inp : CycleInput) : (s.present inp).inUse = s.inUse := rfl
@[simp] theorem State.present_queued (s : State) (inp : CycleInput) : (s.present inp).queued = s.queued := rfl
@[simp] theorem State.present_slice (s : State) (inp : CycleInput) : (s.present inp).slice = s.slice := rfl
@[simp] theorem State.present_dir (s : State) (inp : CycleInput) : (s.present inp).dir = s.dir := rfl
@[simp] theorem State.present_cnt (s : State) (inp : CycleInput) : (s.present inp).cnt = s.cnt := rfl
@[simp] theorem State.present_matchReg (s : State) (inp : CycleInput) : (s.present inp).matchReg = s.matchReg := rfl
@[simp] theorem State.present_pwmOut (s : State) (inp : CycleInput) : (s.present inp).pwmOut = s.pwmOut := rfl
@[simp] theorem State.present_lutIn (s : State) (inp : CycleInput) : (s.present inp).lutIn = s.lutIn := rfl
@[simp] theorem State.present_ready (s : State) (inp : CycleInput) : (s.present inp).ready = s.ready := rfl
@[simp] theorem State.present_rdata (s : State) (inp : CycleInput) : (s.present inp).rdata = s.rdata := rfl
@[simp] theorem State.present_inputs (s : State) (inp : CycleInput) : (s.present inp).inputs = inp :: s.inputs := rfl

/-! ### `State.resetFor` and `State.resetCycle` -/

@[simp] theorem State.resetFor_cfg (c : Config) : (State.resetFor c).cfg = c := rfl
@[simp] theorem State.resetFor_en (c : Config) : (State.resetFor c).en = false := rfl
@[simp] theorem State.resetFor_intensity (c : Config) : (State.resetFor c).intensity = List.replicate c.n 0 := rfl
@[simp] theorem State.resetFor_buf0 (c : Config) : (State.resetFor c).buf0 = List.replicate c.r 0 := rfl
@[simp] theorem State.resetFor_buf1 (c : Config) : (State.resetFor c).buf1 = List.replicate c.r 0 := rfl
@[simp] theorem State.resetFor_inUse (c : Config) : (State.resetFor c).inUse = false := rfl
@[simp] theorem State.resetFor_queued (c : Config) : (State.resetFor c).queued = false := rfl
@[simp] theorem State.resetFor_slice (c : Config) : (State.resetFor c).slice = 0 := rfl
@[simp] theorem State.resetFor_dir (c : Config) : (State.resetFor c).dir = .up := rfl
@[simp] theorem State.resetFor_cnt (c : Config) : (State.resetFor c).cnt = 0 := rfl
@[simp] theorem State.resetFor_matchReg (c : Config) : (State.resetFor c).matchReg = 0 := rfl
@[simp] theorem State.resetFor_pwmOut (c : Config) : (State.resetFor c).pwmOut = c.inactive := rfl
@[simp] theorem State.resetFor_lutIn (c : Config) : (State.resetFor c).lutIn = 0 := rfl
@[simp] theorem State.resetFor_ready (c : Config) : (State.resetFor c).ready = false := rfl
@[simp] theorem State.resetFor_rdata (c : Config) : (State.resetFor c).rdata = 0 := rfl
@[simp] theorem State.resetFor_inputs (c : Config) : (State.resetFor c).inputs = [] := rfl
@[simp] theorem State.resetCycle_cfg (s : State) : s.resetCycle.cfg = (State.resetFor s.cfg).cfg := rfl
@[simp] theorem State.resetCycle_en (s : State) : s.resetCycle.en = (State.resetFor s.cfg).en := rfl
@[simp] theorem State.resetCycle_intensity (s : State) : s.resetCycle.intensity = (State.resetFor s.cfg).intensity := rfl
@[simp] theorem State.resetCycle_buf0 (s : State) : s.resetCycle.buf0 = (State.resetFor s.cfg).buf0 := rfl
@[simp] theorem State.resetCycle_buf1 (s : State) : s.resetCycle.buf1 = (State.resetFor s.cfg).buf1 := rfl
@[simp] theorem State.resetCycle_inUse (s : State) : s.resetCycle.inUse = (State.resetFor s.cfg).inUse := rfl
@[simp] theorem State.resetCycle_queued (s : State) : s.resetCycle.queued = (State.resetFor s.cfg).queued := rfl
@[simp] theorem State.resetCycle_slice (s : State) : s.resetCycle.slice = (State.resetFor s.cfg).slice := rfl
@[simp] theorem State.resetCycle_dir (s : State) : s.resetCycle.dir = (State.resetFor s.cfg).dir := rfl
@[simp] theorem State.resetCycle_cnt (s : State) : s.resetCycle.cnt = (State.resetFor s.cfg).cnt := rfl
@[simp] theorem State.resetCycle_matchReg (s : State) : s.resetCycle.matchReg = (State.resetFor s.cfg).matchReg := rfl
@[simp] theorem State.resetCycle_pwmOut (s : State) : s.resetCycle.pwmOut = (State.resetFor s.cfg).pwmOut := rfl
@[simp] theorem State.resetCycle_lutIn (s : State) : s.resetCycle.lutIn = (State.resetFor s.cfg).lutIn := rfl
@[simp] theorem State.resetCycle_ready (s : State) : s.resetCycle.ready = (State.resetFor s.cfg).ready := rfl
@[simp] theorem State.resetCycle_rdata (s : State) : s.resetCycle.rdata = (State.resetFor s.cfg).rdata := rfl
@[simp] theorem State.resetCycle_inputs (s : State) : s.resetCycle.inputs = s.inputs := rfl

/-! ### The conditional updates -/

@[simp] theorem State.setIntensity_cfg (s : State) (c : Nat) (v : Intensity) :
    (s.setIntensity c v).cfg = s.cfg := by unfold State.setIntensity; split <;> rfl
@[simp] theorem State.setIntensity_en (s : State) (c : Nat) (v : Intensity) :
    (s.setIntensity c v).en = s.en := by unfold State.setIntensity; split <;> rfl
@[simp] theorem State.setIntensity_buf0 (s : State) (c : Nat) (v : Intensity) :
    (s.setIntensity c v).buf0 = s.buf0 := by unfold State.setIntensity; split <;> rfl
@[simp] theorem State.setIntensity_buf1 (s : State) (c : Nat) (v : Intensity) :
    (s.setIntensity c v).buf1 = s.buf1 := by unfold State.setIntensity; split <;> rfl
@[simp] theorem State.setIntensity_inUse (s : State) (c : Nat) (v : Intensity) :
    (s.setIntensity c v).inUse = s.inUse := by unfold State.setIntensity; split <;> rfl
@[simp] theorem State.setIntensity_queued (s : State) (c : Nat) (v : Intensity) :
    (s.setIntensity c v).queued = s.queued := by unfold State.setIntensity; split <;> rfl
@[simp] theorem State.setIntensity_slice (s : State) (c : Nat) (v : Intensity) :
    (s.setIntensity c v).slice = s.slice := by unfold State.setIntensity; split <;> rfl
@[simp] theorem State.setIntensity_dir (s : State) (c : Nat) (v : Intensity) :
    (s.setIntensity c v).dir = s.dir := by unfold State.setIntensity; split <;> rfl
@[simp] theorem State.setIntensity_cnt (s : State) (c : Nat) (v : Intensity) :
    (s.setIntensity c v).cnt = s.cnt := by unfold State.setIntensity; split <;> rfl
@[simp] theorem State.setIntensity_matchReg (s : State) (c : Nat) (v : Intensity) :
    (s.setIntensity c v).matchReg = s.matchReg := by unfold State.setIntensity; split <;> rfl
@[simp] theorem State.setIntensity_pwmOut (s : State) (c : Nat) (v : Intensity) :
    (s.setIntensity c v).pwmOut = s.pwmOut := by unfold State.setIntensity; split <;> rfl
@[simp] theorem State.setIntensity_lutIn (s : State) (c : Nat) (v : Intensity) :
    (s.setIntensity c v).lutIn = s.lutIn := by unfold State.setIntensity; split <;> rfl
@[simp] theorem State.setIntensity_ready (s : State) (c : Nat) (v : Intensity) :
    (s.setIntensity c v).ready = s.ready := by unfold State.setIntensity; split <;> rfl
@[simp] theorem State.setIntensity_rdata (s : State) (c : Nat) (v : Intensity) :
    (s.setIntensity c v).rdata = s.rdata := by unfold State.setIntensity; split <;> rfl
@[simp] theorem State.setIntensity_inputs (s : State) (c : Nat) (v : Intensity) :
    (s.setIntensity c v).inputs = s.inputs := by unfold State.setIntensity; split <;> rfl
@[simp] theorem State.setBuf_cfg (s : State) (b : Bool) (ws : List Data) :
    (s.setBuf b ws).cfg = s.cfg := by cases b <;> rfl
@[simp] theorem State.setBuf_en (s : State) (b : Bool) (ws : List Data) :
    (s.setBuf b ws).en = s.en := by cases b <;> rfl
@[simp] theorem State.setBuf_intensity (s : State) (b : Bool) (ws : List Data) :
    (s.setBuf b ws).intensity = s.intensity := by cases b <;> rfl
@[simp] theorem State.setBuf_inUse (s : State) (b : Bool) (ws : List Data) :
    (s.setBuf b ws).inUse = s.inUse := by cases b <;> rfl
@[simp] theorem State.setBuf_queued (s : State) (b : Bool) (ws : List Data) :
    (s.setBuf b ws).queued = s.queued := by cases b <;> rfl
@[simp] theorem State.setBuf_slice (s : State) (b : Bool) (ws : List Data) :
    (s.setBuf b ws).slice = s.slice := by cases b <;> rfl
@[simp] theorem State.setBuf_dir (s : State) (b : Bool) (ws : List Data) :
    (s.setBuf b ws).dir = s.dir := by cases b <;> rfl
@[simp] theorem State.setBuf_cnt (s : State) (b : Bool) (ws : List Data) :
    (s.setBuf b ws).cnt = s.cnt := by cases b <;> rfl
@[simp] theorem State.setBuf_matchReg (s : State) (b : Bool) (ws : List Data) :
    (s.setBuf b ws).matchReg = s.matchReg := by cases b <;> rfl
@[simp] theorem State.setBuf_pwmOut (s : State) (b : Bool) (ws : List Data) :
    (s.setBuf b ws).pwmOut = s.pwmOut := by cases b <;> rfl
@[simp] theorem State.setBuf_lutIn (s : State) (b : Bool) (ws : List Data) :
    (s.setBuf b ws).lutIn = s.lutIn := by cases b <;> rfl
@[simp] theorem State.setBuf_ready (s : State) (b : Bool) (ws : List Data) :
    (s.setBuf b ws).ready = s.ready := by cases b <;> rfl
@[simp] theorem State.setBuf_rdata (s : State) (b : Bool) (ws : List Data) :
    (s.setBuf b ws).rdata = s.rdata := by cases b <;> rfl
@[simp] theorem State.setBuf_inputs (s : State) (b : Bool) (ws : List Data) :
    (s.setBuf b ws).inputs = s.inputs := by cases b <;> rfl

/-- INT after a write of channel `c` (44_register_access.md R144). -/
theorem State.setIntensity_intensity (s : State) (c : Nat) (v : Intensity) :
    (s.setIntensity c v).intensity = if c < s.cfg.n then s.intensity.set c v else s.intensity := by
  unfold State.setIntensity; split <;> rfl

/-- Buffer `b'` after a write of buffer `b`. -/
@[simp] theorem State.setBuf_buf (s : State) (b b' : Bool) (ws : List Data) :
    (s.setBuf b ws).buf b' = if b' = b then ws else s.buf b' := by cases b <;> cases b' <;> rfl

/-! ### Reading a buffer after an update that leaves both buffers alone -/

@[simp] theorem State.readReply_buf (s : State) (v : Data) (k : Bool) : (s.readReply v).buf k = s.buf k := rfl
@[simp] theorem State.writeReply_buf (s : State) (k : Bool) : (s.writeReply).buf k = s.buf k := rfl
@[simp] theorem State.holdReply_buf (s : State) (k : Bool) : (s.holdReply).buf k = s.buf k := rfl
@[simp] theorem State.setLutIn_buf (s : State) (v : Intensity) (k : Bool) : (s.setLutIn v).buf k = s.buf k := rfl
@[simp] theorem State.setQueued_buf (s : State) (b : Bool) (k : Bool) : (s.setQueued b).buf k = s.buf k := rfl
@[simp] theorem State.start_buf (s : State) (k : Bool) : (s.start).buf k = s.buf k := rfl
@[simp] theorem State.stop_buf (s : State) (k : Bool) : (s.stop).buf k = s.buf k := rfl
@[simp] theorem State.swapCommit_buf (s : State) (k : Bool) : (s.swapCommit).buf k = s.buf k := rfl
@[simp] theorem State.outputSlice_buf (s : State) (k : Bool) : (s.outputSlice).buf k = s.buf k := rfl
@[simp] theorem State.countTick_buf (s : State) (k : Bool) : (s.countTick).buf k = s.buf k := rfl
@[simp] theorem State.takeInput_buf (s : State) (k : Bool) : (s.takeInput).buf k = s.buf k := rfl
@[simp] theorem State.present_buf (s : State) (inp : CycleInput) (k : Bool) : (s.present inp).buf k = s.buf k := rfl

/-- Two states with the same fields are the same state. -/
@[ext] theorem State.ext_fields {s t : State} (h0 : s.cfg = t.cfg) (h1 : s.en = t.en) (h2 : s.intensity = t.intensity)
    (h3 : s.buf0 = t.buf0) (h4 : s.buf1 = t.buf1) (h5 : s.inUse = t.inUse) (h6 : s.queued = t.queued)
    (h7 : s.slice = t.slice) (h8 : s.dir = t.dir) (h9 : s.cnt = t.cnt) (h10 : s.matchReg = t.matchReg)
    (h11 : s.pwmOut = t.pwmOut) (h12 : s.lutIn = t.lutIn) (h13 : s.ready = t.ready) (h14 : s.rdata = t.rdata)
    (h15 : s.inputs = t.inputs) : s = t := by
  cases s; cases t; simp_all

end Sys2Proof.Machine
end

