-- ==== Sys2Proof/Laws/Ops.lean ====
section
/-! SUPPORT. One lemma per shared operation that says once everything it can do (42_swap.md R109 to R113;
44_register_access.md R144). -/

namespace Sys2Proof.Machine

/-- EncodeFree (R109): the free buffer holds the frame; every other field is as before. -/
theorem State.encodeFree_spec (s : State) :
    s.encodeFree.buf (!s.inUse) = encodeFrame s.cfg s.intensity ∧ s.encodeFree.buf s.inUse = s.buf s.inUse ∧
      s.encodeFree = { s with buf0 := s.encodeFree.buf0, buf1 := s.encodeFree.buf1 } := by
  unfold State.encodeFree
  exact ⟨by simp, by simp, State.ext_fields (by simp) (by simp) (by simp) rfl rfl (by simp) (by simp) (by simp) (by simp)
    (by simp) (by simp) (by simp) (by simp) (by simp) (by simp) (by simp)⟩

/-- A swap request (R110): the free buffer holds the frame, `queued` names it; every other field is as before. -/
theorem State.requestSwap_spec (s : State) :
    s.requestSwap.buf (!s.inUse) = encodeFrame s.cfg s.intensity ∧ s.requestSwap.buf s.inUse = s.buf s.inUse ∧
      s.requestSwap =
        { s with buf0 := s.requestSwap.buf0, buf1 := s.requestSwap.buf1, queued := !s.inUse } := by
  unfold State.requestSwap State.encodeFree
  exact ⟨by simp, by simp, State.ext_fields (by simp) (by simp) (by simp) rfl rfl (by simp) (by simp) (by simp) (by simp)
    (by simp) (by simp) (by simp) (by simp) (by simp) (by simp) (by simp)⟩

/-- The staged intensities after a write of channel `c` (R144). -/
theorem State.setIntensity_at (s : State) (c : Nat) (v : Intensity) (hc : c < s.cfg.n)
    (hlen : s.intensity.length = s.cfg.n) (j : Nat) :
    (s.setIntensity c v).intensityAt j = if j = c then v else s.intensityAt j := by
  unfold State.intensityAt
  rw [State.setIntensity_intensity, if_pos hc, List.getD_eq_getElem?_getD, List.getElem?_set]
  by_cases h : j = c
  · subst h; simp [hlen, hc]
  · rw [if_neg (fun h' => h h'.symm), if_neg h, List.getD_eq_getElem?_getD]

/-- Everything a FLIP can do: it holds (WAIT, a swap pending), or does nothing (IGNORE, a swap pending), or encodes and
sets `queued` to the buffer its policy says (R110 to R113). -/
theorem execFlip_cases (s : State) :
    (s.cfg.swapPolicy = .wait ∧ s.pending = true ∧ execFlip s = .next s.holdReply) ∨
    (s.cfg.swapPolicy = .ignore ∧ s.pending = true ∧ execFlip s = .next s.writeReply) ∨
    ∃ q, execFlip s = .next (s.encodeFree.setQueued q).writeReply ∧
      (q = (!s.inUse) ∨ s.cfg.swapPolicy = .toggle ∧ q = (!s.queued)) ∧
      (s.cfg.swapPolicy = .ignore ∨ s.cfg.swapPolicy = .wait → s.pending = false) := by
  cases hp : s.cfg.swapPolicy <;> cases hq : s.pending
  case ignore.true => exact .inr (.inl ⟨rfl, rfl, by simp [execFlip, hp, hq]⟩)
  case wait.true => exact .inl ⟨rfl, rfl, by simp [execFlip, hp, hq]⟩
  case toggle.true | toggle.false =>
    exact .inr (.inr ⟨!s.queued, by simp [execFlip, hp], .inr ⟨rfl, rfl⟩, by simp⟩)
  all_goals exact .inr (.inr ⟨!s.inUse, by simp [execFlip, hp, hq, State.requestSwap], .inl rfl, by simp⟩)

end Sys2Proof.Machine
end

