-- ==== Sys2Proof/Laws/Words.lean ====
section
/-! SUPPORT. The transaction word and the decode table of 30_encoding.md R73, R76: a word is its three parts, and a row is
taken part by part. -/

namespace Sys2Proof

/-- The bitwise AND of two transaction words, part by part. -/
theorem txnWord_and (w1 w2 : Bool) (a1 a2 : Addr) (d1 d2 : Data) :
    txnWord w1 a1 d1 &&& txnWord w2 a2 d2 = txnWord (w1 && w2) (a1 &&& a2) (d1 &&& d2) := by
  unfold txnWord
  rw [BitVec.and_append, BitVec.and_append]
  cases w1 <;> cases w2 <;> rfl

/-- Bit `i` of a transaction word. -/
theorem getLsbD_txnWord (we : Bool) (a : Addr) (d : Data) (i : Nat) :
    (txnWord we a d).getLsbD i =
      if i < 32 then d.getLsbD i else if i < 44 then a.getLsbD (i - 32) else (decide (i = 44) && we) := by
  unfold txnWord
  rw [BitVec.getLsbD_append, BitVec.getLsbD_append]
  split
  · rfl
  · rename_i h
    split
    · rw [if_pos (by omega)]
    · rename_i h2
      rw [if_neg (by omega)]
      simp only [BitVec.getLsbD_ofBool]
      congr 1
      exact decide_eq_decide.mpr (by omega)

/-- The data part of a word (R73). -/
@[simp] theorem txnData_txnWord (we : Bool) (a : Addr) (d : Data) : txnData (txnWord we a d) = d := by
  apply BitVec.eq_of_getLsbD_eq
  intro i hi
  simp [txnData, getLsbD_txnWord, hi]

/-- The address part of a word (R73). -/
@[simp] theorem txnAddr_txnWord (we : Bool) (a : Addr) (d : Data) : txnAddr (txnWord we a d) = a := by
  apply BitVec.eq_of_getLsbD_eq
  intro i hi
  have h : ¬ 32 + i < 32 := by omega
  have h' : 32 + i < 44 := by omega
  simp [txnAddr, getLsbD_txnWord, hi, h']

/-- The write bit of a word (R73). -/
@[simp] theorem getLsbD_44_txnWord (we : Bool) (a : Addr) (d : Data) : (txnWord we a d).getLsbD 44 = we := by
  rw [getLsbD_txnWord]; rfl

/-- A word is its three parts (R73). -/
theorem txnWord_parts (w : Txn) : txnWord (w.getLsbD 44) (txnAddr w) (txnData w) = w := by
  apply BitVec.eq_of_getLsbD_eq
  intro i hi
  rw [getLsbD_txnWord]
  split
  · rename_i h
    simp [txnData, h]
  · rename_i h
    split
    · rename_i h2
      have h3 : i - 32 < 12 := by omega
      have h4 : 32 + (i - 32) = i := by omega
      simp only [txnAddr, BitVec.getLsbD_extractLsb', h3, h4, decide_true, Bool.true_and]
    · rename_i h2
      have h3 : i = 44 := by omega
      simp [h3]

/-- The index operand of a word is A[6:2] (R75). -/
theorem txnIndex_txnWord (we : Bool) (a : Addr) (d : Data) : txnIndex (txnWord we a d) = a.extractLsb' 2 5 := by
  apply BitVec.eq_of_getLsbD_eq
  intro i hi
  simp only [txnIndex, BitVec.getLsbD_extractLsb', hi, getLsbD_txnWord, decide_true, Bool.true_and]
  rw [if_neg (by omega), if_pos (by omega)]
  congr 1
  omega

/-- The slice operand of a word is A[5:2] (R75). -/
theorem txnSlice_txnWord (we : Bool) (a : Addr) (d : Data) : txnSlice (txnWord we a d) = a.extractLsb' 2 4 := by
  apply BitVec.eq_of_getLsbD_eq
  intro i hi
  simp only [txnSlice, BitVec.getLsbD_extractLsb', hi, getLsbD_txnWord, decide_true, Bool.true_and]
  rw [if_neg (by omega), if_pos (by omega)]
  congr 1
  omega

/-- The buffer operand of a word is A[6] (R75). -/
theorem txnBuffer_txnWord (we : Bool) (a : Addr) (d : Data) : txnBuffer (txnWord we a d) = a.getLsbD 6 := by
  unfold txnBuffer
  rw [getLsbD_txnWord]
  rfl

/-- The slot a word acts on (20_memory.md R59). -/
theorem txnSlot_txnWord (we : Bool) (a : Addr) (d : Data) : txnSlot (txnWord we a d) = a &&& 0xFFC := by
  unfold txnSlot
  rw [txnAddr_txnWord]

/-- Two words are equal exactly when their parts are. -/
theorem txnWord_inj (w1 w2 : Bool) (a1 a2 : Addr) (d1 d2 : Data) :
    txnWord w1 a1 d1 = txnWord w2 a2 d2 ↔ w1 = w2 ∧ a1 = a2 ∧ d1 = d2 := by
  refine ⟨fun h => ⟨?_, ?_, ?_⟩, fun ⟨h1, h2, h3⟩ => by rw [h1, h2, h3]⟩
  · simpa only [getLsbD_44_txnWord] using congrArg (BitVec.getLsbD · 44) h
  · simpa using congrArg txnAddr h
  · simpa using congrArg txnData h

/-- A row takes a word exactly when its three parts agree with the row's on the row's mask (R76). -/
theorem DecodeRow.takes_txnWord (row : DecodeRow) (we : Bool) (a : Addr) (d : Data) :
    row.takes (txnWord we a d) =
      ((we && row.mask.getLsbD 44) == row.hit.getLsbD 44 && (a &&& txnAddr row.mask) == txnAddr row.hit &&
        (d &&& txnData row.mask) == txnData row.hit) := by
  have h : row.takes (txnWord we a d) = (txnWord we a d &&& row.mask == row.hit) := rfl
  rw [h, ← txnWord_parts row.mask, ← txnWord_parts row.hit, txnWord_and]
  simp only [getLsbD_44_txnWord, txnAddr_txnWord, txnData_txnWord]
  rw [Bool.eq_iff_iff]
  simp only [beq_iff_eq, Bool.and_eq_true]
  rw [txnWord_inj, and_assoc]

/-- The mask of every row of R76 names no data bit but D[0]. -/
theorem mask_data_bit0 : ∀ row ∈ decodeTable, txnData row.mask = txnData row.mask &&& 1 := by decide

/-- Whether a row takes a word depends on D through D[0] only. -/
theorem takes_txnWord_bit0 (row : DecodeRow) (hrow : row ∈ decodeTable) (we : Bool) (a : Addr) (d : Data) :
    row.takes (txnWord we a d) = row.takes (txnWord we a (d &&& 1)) := by
  rw [row.takes_txnWord, row.takes_txnWord, mask_data_bit0 row hrow]
  have h : d &&& 1 &&& (txnData row.mask &&& 1) = d &&& (txnData row.mask &&& 1) := by
    apply BitVec.eq_of_getLsbD_eq
    intro i _
    simp only [BitVec.getLsbD_and]
    cases d.getLsbD i <;> cases (1 : Data).getLsbD i <;> simp
  rw [h]

/-- The index of the first element that passes a test depends on the test's values on the list only. -/
theorem findIdx_congr {α : Type} {p q : α → Bool} (l : List α) (h : ∀ x ∈ l, p x = q x) :
    l.findIdx p = l.findIdx q := by
  induction l with
  | nil => rfl
  | cons x xs ih =>
    rw [List.findIdx_cons, List.findIdx_cons, h x (by simp), ih fun y hy => h y (by simp [hy])]

/-- A word decodes by the row at the index where the search of R76 stops. -/
theorem decode_of_findIdx (w : Txn) (k : Nat) (hk : k < decodeTable.length)
    (h : decodeTable.findIdx (·.takes w) = k) : decode w = (decodeTable[k]).build w := by
  subst h
  have h1 : decodeTable[decodeTable.findIdx (·.takes w)].takes w = true := List.findIdx_getElem (w := hk)
  have h2 : decodeTable.find? (·.takes w) = some decodeTable[decodeTable.findIdx (·.takes w)] :=
    List.find?_eq_some_iff_getElem.mpr ⟨h1, _, hk, rfl, fun j hj => by simpa using List.not_of_lt_findIdx hj⟩
  unfold decode
  rw [h2]

/-- A word decodes by the row where the search of R76 stops on the same word with D[31:1] cleared. -/
theorem decode_txnWord_of_findIdx (we : Bool) (a : Addr) (d : Data) (k : Nat) (hk : k < decodeTable.length)
    (h : decodeTable.findIdx (·.takes (txnWord we a (d &&& 1))) = k) :
    decode (txnWord we a d) = (decodeTable[k]).build (txnWord we a d) :=
  decode_of_findIdx _ k hk ((findIdx_congr _ fun row hrow => takes_txnWord_bit0 row hrow we a d).trans h)

/-- A data word with D[31:1] cleared is 0 or 1. -/
theorem data_and_one (d : Data) : d &&& 1 = if d.getLsbD 0 then 1 else 0 := by
  apply BitVec.eq_of_getLsbD_eq
  intro i hi
  rw [BitVec.getLsbD_and]
  by_cases h : i = 0
  · subst h; cases d.getLsbD 0 <;> rfl
  · have h1 : (1 : Data).getLsbD i = false := by
      simp only [BitVec.ofNat_eq_ofNat, BitVec.getLsbD_one]
      simp [h]
    rw [h1, Bool.and_false]
    split
    · exact h1.symm
    · exact (BitVec.getLsbD_zero).symm

/-- The row a word decodes by does not depend on D where both values of D[0] lead to the same row. -/
theorem findIdx_of_bit0 (we : Bool) (a : Addr) (d : Data) (k : Nat)
    (h : ∀ b : Bool, decodeTable.findIdx (·.takes (txnWord we a (if b then 1 else 0))) = k) :
    decodeTable.findIdx (·.takes (txnWord we a (d &&& 1))) = k := by
  rw [data_and_one]
  exact h _

end Sys2Proof
end

