-- ==== Sys2Proof/Laws/PerInstr.lean ====
section
/-! SUPPORT. The per-instruction family RowMatch: the canonical word of every transaction belongs to its row of the table
of 30_encoding.md R76. -/

namespace Sys2Proof.Laws.RowMatch

/-- The place of a transaction's row in the table of R76, from 0. -/
def rowIndex : Instr → Nat
  | .ctrlWr _ => 0
  | .ctrlRd => 1
  | .statusRd => 2
  | .flip => 3
  | .cmdNop _ => 4
  | .lutinWr _ => 5
  | .lutinRd => 6
  | .lutoutRd => 7
  | .config0Rd => 8
  | .config1Rd => 9
  | .config2Rd => 10
  | .seqRd => 11
  | .tcntRd => 12
  | .tmatchRd => 13
  | .portoutRd => 14
  | .intWr _ _ => 15
  | .intRd _ => 16
  | .bufRd _ _ => 17
  | .pinmaskRd _ => 18
  | .lutnodeRd _ => 19
  | .rsvRd _ => 20
  | .rsvWr _ _ => 21

/-- A well-formed transaction's canonical word is taken by its own row: `TXN & mask = match`. -/
def Statement (i : Instr) : Prop :=
  i.wellFormed = true → ∃ row, decodeTable[rowIndex i]? = some row ∧ row.takes (encode i) = true

/-- A row whose mask names no data bit takes a word by its write bit and its address alone. -/
theorem takes_of_parts {row : DecodeRow} {we : Bool} {a : Addr} (d : Data) (hm : txnData row.mask = 0)
    (hh : txnData row.hit = 0) (hw : ((we && row.mask.getLsbD 44) == row.hit.getLsbD 44) = true)
    (ha : ((a &&& txnAddr row.mask) == txnAddr row.hit) = true) : row.takes (txnWord we a d) = true := by
  rw [row.takes_txnWord, hm, hh, hw, ha, Bool.true_and, Bool.true_and]
  exact beq_iff_eq.mpr BitVec.and_zero

theorem ctrlWr (d : Data) : Statement (.ctrlWr d) := fun _ =>
  ⟨_, rfl, takes_of_parts d (by decide) (by decide) (by decide) (by decide)⟩

theorem ctrlRd : Statement .ctrlRd := fun _ => ⟨_, rfl, by decide⟩

theorem statusRd : Statement .statusRd := fun _ => ⟨_, rfl, by decide⟩

theorem flip : Statement .flip := fun _ => ⟨_, rfl, by decide⟩

theorem cmdNop (d : Data) : Statement (.cmdNop d) := fun h => by
  refine ⟨_, rfl, ?_⟩
  have hd : d &&& 1 = 0 := by
    have h0 : d.getLsbD 0 = false := by simpa [Instr.wellFormed] using h
    rw [data_and_one, h0]; rfl
  show DecodeRow.takes _ (txnWord true 0x008 d) = true
  rw [DecodeRow.takes_txnWord, show txnData (0x1FFC00000001 : Txn) = 1 from by decide, hd]
  decide

theorem lutinWr (d : Data) : Statement (.lutinWr d) := fun _ =>
  ⟨_, rfl, takes_of_parts d (by decide) (by decide) (by decide) (by decide)⟩

theorem lutinRd : Statement .lutinRd := fun _ => ⟨_, rfl, by decide⟩

theorem lutoutRd : Statement .lutoutRd := fun _ => ⟨_, rfl, by decide⟩

theorem config0Rd : Statement .config0Rd := fun _ => ⟨_, rfl, by decide⟩

theorem config1Rd : Statement .config1Rd := fun _ => ⟨_, rfl, by decide⟩

theorem config2Rd : Statement .config2Rd := fun _ => ⟨_, rfl, by decide⟩

theorem seqRd : Statement .seqRd := fun _ => ⟨_, rfl, by decide⟩

theorem tcntRd : Statement .tcntRd := fun _ => ⟨_, rfl, by decide⟩

theorem tmatchRd : Statement .tmatchRd := fun _ => ⟨_, rfl, by decide⟩

theorem portoutRd : Statement .portoutRd := fun _ => ⟨_, rfl, by decide⟩

theorem intWr (c : BitVec 5) (d : Data) : Statement (.intWr c d) := fun _ =>
  ⟨_, rfl, takes_of_parts d (by decide) (by decide) (by decide) (by clear * -; revert c; decide)⟩

theorem intRd (c : BitVec 5) : Statement (.intRd c) := fun _ => ⟨_, rfl, by revert c; decide⟩

theorem bufRd (b : Bool) (i : BitVec 4) : Statement (.bufRd b i) := fun _ => ⟨_, rfl, by revert b i; decide⟩

theorem pinmaskRd (c : BitVec 5) : Statement (.pinmaskRd c) := fun _ => ⟨_, rfl, by revert c; decide⟩

theorem lutnodeRd (k : BitVec 5) : Statement (.lutnodeRd k) := fun _ => ⟨_, rfl, by revert k; decide⟩

theorem rsvRd (a : Addr) : Statement (.rsvRd a) := fun _ =>
  ⟨_, rfl, takes_of_parts 0 (by decide) (by decide) (by decide)
    (beq_iff_eq.mpr (BitVec.and_zero (x := a)))⟩

theorem rsvWr (a : Addr) (d : Data) : Statement (.rsvWr a d) := fun _ =>
  ⟨_, rfl, takes_of_parts d (by decide) (by decide) (by decide)
    (beq_iff_eq.mpr (BitVec.and_zero (x := a)))⟩

end Sys2Proof.Laws.RowMatch
end

