-- ==== Sys2Proof/Laws/Runs.lean ====
section
/-! SUPPORT. Runs of several steps, and the SET lines of the boot sequence (70_reset_and_hazards.md R176), entry by entry. -/

namespace Sys2Proof.Machine

@[simp] theorem steps_zero (s : State) : steps 0 s = some s := rfl

/-- A run whose first step goes on is the rest of the run from there. -/
theorem steps_succ_of_next {n : Nat} {s t : State} (h : step s = .next t) : steps (n + 1) s = steps n t := by
  rw [steps, h]

/-- A run that reaches a state went on at its first step. -/
theorem steps_succ {n : Nat} {s u : State} (h : steps (n + 1) s = some u) :
    ∃ t, step s = .next t ∧ steps n t = some u := by
  unfold steps at h
  split at h
  · exact ⟨_, by assumption, h⟩
  all_goals cases h

@[simp] theorem setLines_nil (c : Nat) : setLines c [] = [] := rfl

/-- A channel at 0 is not set. -/
@[simp] theorem setLines_zero (c : Nat) (vs : List Intensity) : setLines c (0 :: vs) = setLines (c + 1) vs := rfl

/-- A channel at another intensity is set by one line. -/
theorem setLines_cons {v : Intensity} (c : Nat) (vs : List Intensity) (hv : v ≠ 0) :
    setLines c (v :: vs) = .set (BitVec.ofNat 5 c) (zext32 v) :: setLines (c + 1) vs := if_neg hv

end Sys2Proof.Machine
end

