-- ==== Sys2Proof/Laws/Sequencer.lean ====
section
/-! SUPPORT. The sequencer phase (43_sweep.md R125 to R128): its three outcomes, each field after an expiry, and the fields it
leaves alone. -/

namespace Sys2Proof.Machine

/-- Everything a sequencer phase can do (R125). -/
theorem State.seqPhase_cases (s : State) (tick : Bool) :
    (s.en = true ∧ tick = true ∧ s.cnt = s.matchReg ∧ s.seqPhase tick = s.expiry) ∨
    (s.en = true ∧ tick = true ∧ s.cnt ≠ s.matchReg ∧ s.seqPhase tick = s.countTick) ∨
    ((s.en = false ∨ tick = false) ∧ s.seqPhase tick = s) := by
  unfold State.seqPhase
  cases s.en <;> cases tick <;> simp
  exact Classical.em _ |>.imp (fun h => ⟨h, fun h' => absurd h h'⟩) fun h => ⟨h, fun h' => absurd h' h⟩

/-- Each field after an expiry, from the state before it (R126 to R128). -/
theorem State.expiry_eq (s : State) :
    s.expiry = { s with
      matchReg := toCntWidth s.cfg (s.cfg.period s.slice.toNat - 1)
      cnt := 0
      pwmOut := drive s.cfg (s.bufAt s.inUse s.slice.toNat)
      slice := (advance s.cfg s.slice s.dir).1
      dir := (advance s.cfg s.slice s.dir).2.1
      inUse := if (advance s.cfg s.slice s.dir).2.2 then s.queued else s.inUse } := by
  unfold State.expiry
  simp only
  split <;> rfl

/-- The fields a sequencer phase may write (10_state.md R28). -/
theorem State.seqPhase_frame (s : State) (tick : Bool) :
    s.seqPhase tick =
      { s with inUse := (s.seqPhase tick).inUse, slice := (s.seqPhase tick).slice, dir := (s.seqPhase tick).dir,
               cnt := (s.seqPhase tick).cnt, matchReg := (s.seqPhase tick).matchReg,
               pwmOut := (s.seqPhase tick).pwmOut } := by
  rcases s.seqPhase_cases tick with ⟨-, -, -, h⟩ | ⟨-, -, -, h⟩ | ⟨-, h⟩
  · rw [h, s.expiry_eq]
  · rw [h]; rfl
  · rw [h]

@[simp] theorem State.seqPhase_cfg (s : State) (tick : Bool) : (s.seqPhase tick).cfg = s.cfg := by
  rw [s.seqPhase_frame tick]

@[simp] theorem State.seqPhase_en (s : State) (tick : Bool) : (s.seqPhase tick).en = s.en := by
  rw [s.seqPhase_frame tick]

@[simp] theorem State.seqPhase_intensity (s : State) (tick : Bool) : (s.seqPhase tick).intensity = s.intensity := by
  rw [s.seqPhase_frame tick]

@[simp] theorem State.seqPhase_buf0 (s : State) (tick : Bool) : (s.seqPhase tick).buf0 = s.buf0 := by
  rw [s.seqPhase_frame tick]

@[simp] theorem State.seqPhase_buf1 (s : State) (tick : Bool) : (s.seqPhase tick).buf1 = s.buf1 := by
  rw [s.seqPhase_frame tick]

@[simp] theorem State.seqPhase_queued (s : State) (tick : Bool) : (s.seqPhase tick).queued = s.queued := by
  rw [s.seqPhase_frame tick]

@[simp] theorem State.seqPhase_lutIn (s : State) (tick : Bool) : (s.seqPhase tick).lutIn = s.lutIn := by
  rw [s.seqPhase_frame tick]

@[simp] theorem State.seqPhase_inputs (s : State) (tick : Bool) : (s.seqPhase tick).inputs = s.inputs := by
  rw [s.seqPhase_frame tick]

/-- Adding one to a slice index below 15 does not wrap. -/
theorem slice_succ (s : BitVec 4) (h : s.toNat < 15) : (s + 1).toNat = s.toNat + 1 := by
  rw [BitVec.toNat_add, show BitVec.toNat (1 : BitVec 4) = 1 from rfl]
  omega

/-- Taking one from a slice index above 0 does not wrap. -/
theorem slice_pred (s : BitVec 4) (h : 0 < s.toNat) : (s - 1).toNat = s.toNat - 1 := by
  have := s.isLt
  rw [BitVec.toNat_sub, show BitVec.toNat (1 : BitVec 4) = 1 from rfl]
  omega

/-- The slice index at a reversal going up: R-2, or 0 with one slice (R127). -/
theorem slice_turn (r : Nat) (h : r ≤ 16) : (if r = 1 then 0 else BitVec.ofNat 4 (r - 2) : BitVec 4).toNat = r - 2 := by
  split
  · subst_vars; rfl
  · rw [BitVec.toNat_ofNat]; omega

/-- The sweep stays at slice indices below R (R127, (I1) of 10_state.md R38). -/
theorem advance_slice_le (c : Config) (s : BitVec 4) (dir : Dir) (hr1 : 1 ≤ c.r) (hr : c.r ≤ 16)
    (h : s.toNat ≤ c.r - 1) :
    (advance c s dir).1.toNat ≤ c.r - 1 := by
  unfold advance
  split
  · split
    · exact Nat.zero_le _
    · show (s + 1).toNat ≤ _
      rw [slice_succ s (by omega)]; omega
  · split
    · show (s + 1).toNat ≤ _
      rw [slice_succ s (by omega)]; omega
    · show BitVec.toNat (if c.r = 1 then 0 else BitVec.ofNat 4 (c.r - 2)) ≤ _
      rw [slice_turn c.r hr]; omega
  · split
    · show (s - 1).toNat ≤ _
      rw [slice_pred s (by assumption)]; omega
    · show BitVec.toNat (if c.r = 1 then 0 else 1) ≤ _
      split
      · exact Nat.zero_le _
      · show 1 ≤ _
        omega

/-- In UNI mode every expiry leaves the direction UP (R127). -/
theorem advance_uni_dir (c : Config) (s : BitVec 4) (dir : Dir) (h : c.sweepMode = .uni) :
    (advance c s dir).2.1 = .up := by
  unfold advance
  rw [h]
  simp only
  split <;> rfl

end Sys2Proof.Machine
end

