-- ==== Sys2Proof/Laws/Step.lean ====
section
/-! SUPPORT. One clock edge (20_memory.md R64), case by case, and what a step that goes on has done. -/

namespace Sys2Proof.Machine

/-- With an admitted configuration a step is a clock edge. -/
theorem step_of_admitted {s : State} (h : s.cfg.Admitted) : step s = s.takeInput.clockEdge s.nextInput := by
  unfold step
  rw [show s.cfg.firstFailure = none from h]

/-- A step that goes on had an admitted configuration and was a clock edge. -/
theorem step_next {s t : State} (h : step s = .next t) :
    s.cfg.Admitted ∧ s.takeInput.clockEdge s.nextInput = .next t := by
  unfold step at h
  split at h
  · cases h
  · rename_i hf
    exact ⟨hf, h⟩

/-- A reset cycle (70_reset_and_hazards.md R173). -/
theorem State.clockEdge_reset {s : State} {inp : CycleInput} (h : inp.rst = true) :
    s.clockEdge inp = .next s.resetCycle := by
  simp [State.clockEdge, h]

/-- A cycle that presents no transaction. -/
theorem State.clockEdge_idle {s : State} {inp : CycleInput} (h : inp.rst = false) (hreq : inp.req = false) :
    s.clockEdge inp = .next (s.seqPhase inp.tickEn).writeReply := by
  simp [State.clockEdge, h, hreq]

/-- A cycle that presents a transaction. -/
theorem State.clockEdge_txn {s : State} {inp : CycleInput} (h : inp.rst = false) (hreq : inp.req = true) :
    s.clockEdge inp = (s.seqPhase inp.tickEn).busPhase inp.we (inp.addr &&& 0xFFC) inp.wdata := by
  simp [State.clockEdge, h, hreq]

/-- The cycle that `presentWord` makes carries the word's three parts. -/
theorem txnWord_presentWord (w : Txn) :
    txnWord (presentWord w).we (presentWord w).addr (presentWord w).wdata = w := txnWord_parts w

end Sys2Proof.Machine
end

