-- ==== Sys2Proof/Tests/Slice0.lean ====
section
/-! SUPPORT. Tests of the model on values from 95_test_vectors.md (its V- names) and from the encodings of 30_encoding.md R76,
and a witness for the hypotheses of each statement that has some. -/

namespace Sys2Proof.Tests

set_option Elab.async false

open Sys2Proof Sys2Proof.Machine

/-! ### Terms that are no transaction -/

/-- CMD_NOP with D[0] = 1 would be FLIP (R83). -/
theorem test_illformed_cmdNop : (Instr.cmdNop 1).wellFormed = false := by decide

/-- RSV_RD of an address that is no word slot (R56). -/
theorem test_illformed_rsvRd_slot : (Instr.rsvRd 0x031).wellFormed = false := by decide

/-- RSV_RD of STATUS, which row 3 takes. -/
theorem test_illformed_rsvRd_status : (Instr.rsvRd 0x004).wellFormed = false := by decide

/-- RSV_WR to an address that is no word slot. -/
theorem test_illformed_rsvWr_slot : (Instr.rsvWr 0x183 0).wellFormed = false := by decide

/-- RSV_WR to CMD, which rows 4 and 5 take. -/
theorem test_illformed_rsvWr_cmd : (Instr.rsvWr 0x008 0).wellFormed = false := by decide

/-- RSV_WR to an INTENSITY slot, which row 16 takes. -/
theorem test_illformed_rsvWr_int : (Instr.rsvWr 0x080 0).wellFormed = false := by decide

/-! ### Decoding: one word of every row, written out from its row of R76 (V-SW, V-F, V-L, V-RA) -/

theorem test_decode_ctrlWr : decodeTableWord 48 0x1000FFFFFFFF = some (.ctrlWr 0xFFFFFFFF) := by decide +kernel
theorem test_decode_ctrlRd : decodeTableWord 48 0x000000000000 = some .ctrlRd := by decide +kernel
theorem test_decode_statusRd : decodeTableWord 48 0x000400000000 = some .statusRd := by decide +kernel
theorem test_decode_flip : decodeTableWord 48 0x1008FFFFFFFF = some .flip := by decide +kernel
theorem test_decode_cmdNop : decodeTableWord 48 0x1008FFFFFFFE = some (.cmdNop 0xFFFFFFFE) := by decide +kernel
theorem test_decode_lutinWr : decodeTableWord 48 0x100CFFFF1234 = some (.lutinWr 0xFFFF1234) := by decide +kernel
theorem test_decode_lutinRd : decodeTableWord 48 0x000C00000000 = some .lutinRd := by decide +kernel
theorem test_decode_lutoutRd : decodeTableWord 48 0x001000000000 = some .lutoutRd := by decide +kernel
theorem test_decode_config0Rd : decodeTableWord 48 0x001400000000 = some .config0Rd := by decide +kernel
theorem test_decode_config1Rd : decodeTableWord 48 0x001800000000 = some .config1Rd := by decide +kernel
theorem test_decode_config2Rd : decodeTableWord 48 0x001C00000000 = some .config2Rd := by decide +kernel
theorem test_decode_seqRd : decodeTableWord 48 0x002000000000 = some .seqRd := by decide +kernel
theorem test_decode_tcntRd : decodeTableWord 48 0x002400000000 = some .tcntRd := by decide +kernel
theorem test_decode_tmatchRd : decodeTableWord 48 0x002800000000 = some .tmatchRd := by decide +kernel
theorem test_decode_portoutRd : decodeTableWord 48 0x002C00000000 = some .portoutRd := by decide +kernel
theorem test_decode_intWr : decodeTableWord 48 0x109CDEADBEEF = some (.intWr 7 0xDEADBEEF) := by decide +kernel
theorem test_decode_intRd : decodeTableWord 48 0x00FC00000000 = some (.intRd 31) := by decide +kernel
theorem test_decode_bufRd : decodeTableWord 48 0x015C00000000 = some (.bufRd true 7) := by decide +kernel
theorem test_decode_pinmaskRd : decodeTableWord 48 0x022000000000 = some (.pinmaskRd 8) := by decide +kernel
theorem test_decode_lutnodeRd : decodeTableWord 48 0x037C00000000 = some (.lutnodeRd 31) := by decide +kernel
theorem test_decode_rsvRd : decodeTableWord 48 0x0FFC00000000 = some (.rsvRd 0xFFC) := by decide +kernel
theorem test_decode_rsvWr : decodeTableWord 48 0x115C00000000 = some (.rsvWr 0x15C 0) := by decide +kernel

/-- A number with a bit above bit 44 is no transaction word (R73). -/
theorem test_decode_refuses_bit45 : decodeTableWord 48 0x200000000000 = none := by decide +kernel

/-- The canonical words of V-F1, V-RA1 and V-F9. -/
theorem test_encode_words :
    encode .flip = 0x100800000001 ∧ encode (.intWr 7 0xDEADBEEF) = 0x109CDEADBEEF ∧
      encode (.bufRd true 7) = 0x015C00000000 := by decide +kernel

/-! ### One step: a word presented to a small state -/

/-- Whether the step goes on. -/
def goesOn (s : State) : Bool :=
  match step s with
  | .next _ => true
  | .fault _ | .refused _ => false

/-- The state after one step, of a state whose step goes on. -/
def after (s : State) : State :=
  match step s with
  | .next t => t
  | .fault _ | .refused _ => s

theorem step_after {s : State} (h : goesOn s = true) : step s = .next (after s) := by
  unfold goesOn at h
  unfold after
  split at h <;> simp_all

/-- The state after the edge that presents the word `w`. -/
def afterWord (s : State) (w : Nat) : State := after (s.withFetchWord 48 w)

/-- The state after an edge with these inputs. -/
def afterCycle (s : State) (inp : CycleInput) : State := after (s.present inp)

/-- A cycle with a timer tick only, and one with a reset only. -/
def tickCycle : CycleInput := { idleCycle with tickEn := true }

def resetCycle : CycleInput := { idleCycle with rst := true }

/-- SMALL of 95_test_vectors.md: R = 3, N = 2, M = 1, with a sweep mode and a swap policy. -/
def small (m : SweepMode) (p : SwapPolicy) : Config :=
  { Config.default with r := 3, n := 2, minExp := 0, periodFloor := 1, sweepMode := m, swapPolicy := p }

/-- SMALL after RESET, `SET 0, 0xA000`, `SET 1, 0x6000` (P1). -/
def staged (m : SweepMode) (p : SwapPolicy) : State :=
  { State.resetFor (small m p) with intensity := [0xA000, 0x6000] }

/-- The same running, before the second tick of slice 1 of BUF[0] = [1, 2, 3]: the next tick expires and outputs slice 2,
with a swap pending. -/
def sweeping (m : SweepMode) (p : SwapPolicy) : State :=
  { staged m p with
    en := true, buf0 := [1, 2, 3], buf1 := [3, 2, 1], queued := true, slice := 2, cnt := 1, matchReg := 1, pwmOut := 2 }

/-- The first transaction after reset is the one `withFetchWord` presents. -/
theorem test_withFetchWord_runs :
    (State.reset.withFetchWord 48 0x109CDEADBEEF).nextInput =
      { rst := false, tickEn := false, req := true, we := true, addr := 0x09C, wdata := 0xDEADBEEF } := by decide +kernel

/-- V-SW14. -/
theorem test_ctrlWr_starts : (afterWord State.reset 0x1000FFFFFFFF).en = true := by decide +kernel

/-- V-SW15: D[0] = 0 stops. -/
theorem test_ctrlWr_stops :
    let t := afterWord (sweeping .uni .supersede) 0x100000000002
    (t.en, t.slice, t.cnt, t.matchReg, t.pwmOut) = (false, 0, 0, 0, 0) := by decide +kernel

/-- V-SW19. -/
theorem test_ctrlRd : (afterWord (sweeping .uni .supersede) 0x000000000000).rdata = 1 := by decide +kernel

/-- V-SW27, the status after a boundary: EN, queued, in_use. -/
theorem test_statusRd :
    (afterWord { sweeping .uni .supersede with inUse := true } 0x000400000000).rdata = 0x0000000E := by decide +kernel

/-- P1: the frame of 0xA000, 0x6000 is [3, 2, 1]; V-F3: TOGGLE cancels a pending swap. -/
theorem test_flip_requests_or_cancels :
    (afterWord (staged .uni .supersede) 0x100800000001).buf1 = [3, 2, 1] ∧
      (afterWord { staged .uni .toggle with queued := true } 0x100800000001).queued = false := by decide +kernel

/-- V-F2, V-F4: with a swap pending IGNORE leaves the buffer, WAIT holds. -/
theorem test_flip_while_pending :
    (afterWord { staged .uni .ignore with queued := true } 0x100800000001).buf1 = [0, 0, 0] ∧
      (afterWord { staged .uni .wait with queued := true } 0x100800000001).ready = false := by decide +kernel

/-- V-F7. -/
theorem test_cmdNop :
    let t := afterWord (staged .uni .supersede) 0x100800000000
    (t.queued, t.buf1, t.ready) = (false, [0, 0, 0], true) := by decide +kernel

/-- V-L22: bits 31:16 are ignored. -/
theorem test_lutinWr : (afterWord State.reset 0x100CFFFF1234).lutIn = 0x1234 := by decide +kernel

/-- V-L22. -/
theorem test_lutinRd : (afterWord { State.reset with lutIn := 0x1234 } 0x000C00000000).rdata = 0x1234 := by decide +kernel

/-- The table T2 of 95_test_vectors.md. -/
def tableTwo : Config :=
  { Config.default with
    lutBase := (List.range 32).map fun k => 64 * k * k
    lutSlope := ((List.range 31).map fun k => (2 * k + 1) * 32) ++ [4096] }

/-- V-L23. -/
theorem test_lutoutRd :
    (afterWord { State.resetFor tableTwo with lutIn := 0x8400 } 0x001000000000).rdata = 0x00004420 := by decide +kernel

/-- V-L13: the sum saturates. -/
theorem test_correct_saturates : correct tableTwo 0xFBF0 = 0xFFFF ∧ correct tableTwo 0xFBEF = 0xFFFC := by decide +kernel

/-- V-L24. -/
theorem test_lutnodeRd : (afterWord (State.resetFor tableTwo) 0x037C00000000).rdata = 0x1000F040 := by decide +kernel

/-- V-RA6, V-RA22. -/
theorem test_config0Rd :
    (afterWord State.reset 0x001400000000).rdata = 0xA0020808 ∧
      (afterWord (State.resetFor (small .uni .wait)) 0x001400000000).rdata = 0xA6000203 := by decide +kernel

/-- V-RA7. -/
theorem test_config1Rd : (afterWord State.reset 0x001800000000).rdata = 0x00002020 := by decide +kernel

/-- V-RA8. -/
theorem test_config2Rd : (afterWord State.reset 0x001C00000000).rdata = 0x00000004 := by decide +kernel

/-- P4's form of R139: going down at slice 1. -/
theorem test_seqRd :
    (afterWord { sweeping .bidi .supersede with dir := .down, slice := 1 } 0x002000000000).rdata = 0x00000011 := by
  decide +kernel

/-- V-SW22's form: the count is read. -/
theorem test_tcntRd : (afterWord { sweeping .uni .supersede with cnt := 2 } 0x002400000000).rdata = 2 := by decide +kernel

/-- V-SW25. -/
theorem test_tmatchRd : (afterWord { sweeping .uni .supersede with matchReg := 7 } 0x002800000000).rdata = 7 := by
  decide +kernel

/-- V-I3: an active-low port reads CHAN_PINS after reset. -/
theorem test_portoutRd :
    (afterWord (State.resetFor { Config.default with n := 2, pinMask := [0x3, 0x30], activeLow := true })
      0x002C00000000).rdata = 0x00000033 := by decide +kernel

/-- V-RA1. -/
theorem test_intWr : (afterWord State.reset 0x109CDEADBEEF).intensityAt 7 = 0xBEEF := by decide +kernel

/-- V-RA3: no effect at c = N; V-RA17: A[1:0] are ignored. -/
theorem test_intWr_addressing :
    (afterWord State.reset 0x10A000001234).intensity = State.reset.intensity ∧
      (afterWord State.reset 0x108300000077).intensityAt 0 = 0x0077 := by decide +kernel

/-- V-RA2's form, and V-RA4. -/
theorem test_intRd :
    (afterWord (staged .uni .supersede) 0x008400000000).rdata = 0x6000 ∧
      (afterWord (staged .uni .supersede) 0x00FC00000000).rdata = 0 := by decide +kernel

/-- V-F9, V-F10: a slice of a buffer, and 0 from R on. -/
theorem test_bufRd :
    (afterWord (sweeping .uni .supersede) 0x014800000000).rdata = 1 ∧
      (afterWord (sweeping .uni .supersede) 0x014C00000000).rdata = 0 := by decide +kernel

/-- V-RA9, V-RA10. -/
theorem test_pinmaskRd :
    (afterWord State.reset 0x021C00000000).rdata = 0x80 ∧ (afterWord State.reset 0x022000000000).rdata = 0 := by
  decide +kernel

/-- V-RA11. -/
theorem test_rsvRd : (afterWord (sweeping .uni .supersede) 0x000800000000).rdata = 0 := by decide +kernel

/-- V-RA16: a write to BUF1 has no effect. -/
theorem test_rsvWr : (afterWord (sweeping .uni .supersede) 0x114000000000).buf1 = [3, 2, 1] := by decide +kernel

/-- P1, cycle 10: the boundary expiry outputs slice 2, wraps and commits. -/
theorem test_expiry_boundary :
    let t := afterCycle (sweeping .uni .supersede) tickCycle
    (t.pwmOut, t.slice, t.cnt, t.matchReg, t.inUse) = (3, 0, 0, 3, true) := by decide +kernel

/-- V-SW3: in BIDI the expiry that outputs slice 2 turns the sweep to slice 1 going down. -/
theorem test_expiry_bidi_turns :
    let t := afterCycle (sweeping .bidi .supersede) tickCycle
    (t.slice, t.dir, t.inUse) = (1, .down, true) := by decide +kernel

/-- V-SW18: the tick is counted, then the stop clears. -/
theorem test_tick_and_stop :
    let t := afterCycle { sweeping .uni .supersede with cnt := 0 } { presentWord 0x100000000000 with tickEn := true }
    (t.en, t.cnt, t.matchReg) = (false, 0, 0) := by decide +kernel

/-- V-I6: a reset cycle performs no transaction. -/
theorem test_reset_cycle :
    afterCycle (staged .uni .supersede) { presentWord 0x100800000001 with rst := true, tickEn := true } =
      State.resetFor (small .uni .supersede) := by decide +kernel

/-- V-X13 and V-X8: the first failing check is named; V-X9 is admitted. -/
theorem test_config_errors :
    { Config.default with r := 17, n := 33 }.firstFailure = some .chkR ∧
      { Config.default with cntWidth := 8 }.firstFailure = some .chkCnt ∧
      { Config.default with cntWidth := 9 }.firstFailure = none := by decide +kernel

/-- V-X15. -/
theorem test_config_enum :
    (match RawConfig.build { Config.default.toNumParams with sweepMode := 2, swapPolicy := 0, activeLow := 0 } with
      | .error k => some k
      | .ok _ => none) = some .chkEnum := by decide +kernel

/-- R176, R83: the boot lines for 0xA000, 0, 0x6000 set channels 0 and 2 only, then FLIP and START (P1's order). -/
theorem test_boot_lines :
    (bootLines 0 false [0xA000, 0, 0x6000]).map (fun l => (l.cycle.rst, l.cycle.we, l.cycle.addr, l.cycle.wdata)) =
      [(true, false, 0, 0), (false, true, 0x080, 0xA000), (false, true, 0x088, 0x6000), (false, true, 0x008, 1),
       (false, true, 0x000, 1)] := by decide +kernel

/-! ### Witnesses: for each statement with hypotheses, states and operands that meet them -/

theorem witness_DecodeEncodeAgree :
    (Instr.flip).wellFormed = true ∧ (Instr.cmdNop 2).wellFormed = true ∧ (Instr.rsvRd 0x008).wellFormed = true ∧
      (Instr.rsvWr 0xFFC 1).wellFormed = true := by decide

theorem witness_ReservedSlotsReadZeroIgnoreWrites :
    ([0x030, 0x07C, 0x180, 0x1FC, 0x280, 0x2FC, 0x380, 0xFFC] : List Addr).all
      (fun a => isSlot a && inReservedRange a) = true := by decide

theorem witness_WrongDirectionAccessesAreReserved :
    ([0x004, 0x010, 0x02C, 0x100, 0x17C, 0x200, 0x27C, 0x300, 0x37C] : List Addr).all
      (fun a => decide (isSlot a = true ∧ (a = 0x004 ∨ (0x010 ≤ a ∧ a ≤ 0x02C) ∨ (0x100 ≤ a ∧ a ≤ 0x17C) ∨
        (0x200 ≤ a ∧ a ≤ 0x27C) ∨ (0x300 ≤ a ∧ a ≤ 0x37C)))) = true := by decide

/-- Data words that differ in ignored bits only, and the two ends of the INTENSITY window. -/
theorem witness_UnusedDataBitsIgnored :
    (0xFFFFFFFF : Data).getLsbD 0 = (0x00000001 : Data).getLsbD 0 ∧
      (0xFFFF1234 : Data).extractLsb' 0 16 = (0x00001234 : Data).extractLsb' 0 16 ∧
      ((0x080 : Addr) ≤ 0x080 ∧ (0x080 : Addr) ≤ 0x0FC) ∧ (0x080 : Addr) ≤ 0x0FC ∧ (0x0FC : Addr) ≤ 0x0FC ∧
      isReservedWrite 0x004 = true := by decide

/-- An admitted table with inputs either side of a node, and the table of V-L19, which decreases at node 0. -/
theorem witness_CorrectIsMonotone :
    (tableTwo.Admitted ∧ (0x07FF : Intensity) ≤ 0x0800) ∧
      let c := { Config.default with lutBase := identityBase.set 1 1000 }
      0 < 31 ∧ c.passes .chkLutRange = true ∧ c.lutBaseAt (0 + 1) < sat16 (c.lutSum 0 2047) := by decide +kernel

/-- The identity table at both ends of LUT_SHIFT (V-L16, V-L17). -/
theorem witness_IdentityTableIsIdentity :
    ∀ shift ∈ ([0, 15] : List Nat),
      let c := { Config.default with lutShift := shift, lutSlope := identitySlope shift }
      c.lutShift ≤ 15 ∧ ∀ k, k < 32 → c.lutBaseAt k = 2048 * k ∧ c.lutSlopeAt k = 1 <<< c.lutShift := by decide +kernel

theorem witness_NodeValuesAreBases : tableTwo.Admitted := by decide +kernel

theorem witness_LutProbeReads : (State.resetFor tableTwo).cfg.passes .chkLutRange = true := by decide +kernel

theorem witness_SliceHoldsMaskIffLevelBit :
    let c := small .uni .supersede
    c.Admitted ∧ 2 < c.r ∧ (encodeFrame c [0xA000, 0x6000])[2]? = some 1 ∧ 0 < c.n := by decide +kernel

/-- Two stagings that agree on channel 0 only. -/
theorem witness_LanesAreIndependent :
    let c := small .uni .supersede
    c.Admitted ∧ 0 < c.n ∧ 0 < c.r ∧ ([0xA000, 0x6000] : List Intensity).getD 0 0 = ([0xA000, 0] : List Intensity).getD 0 0 ∧
      (encodeFrame c [0xA000, 0x6000])[0]? = some 3 ∧ (encodeFrame c [0xA000, 0])[0]? = some 1 := by decide +kernel

theorem witness_SlicePeriodsAddUpToLevel :
    let c := small .uni .supersede
    c.Admitted ∧ 1 < c.n ∧ c.periodFloor ≤ 2 ^ c.minExp := by decide +kernel

/-- The invariant as one check, so that the kernel can evaluate it on a state. -/
def invHolds (s : State) : Bool :=
  decide (s.Shaped ∧ s.TimerInRange ∧ s.StoppedIsCleared ∧ s.UniGoesUp) &&
    (s.buf0.all (fun w => decide (OnChannelPins s.cfg w)) && s.buf1.all (fun w => decide (OnChannelPins s.cfg w)) &&
      decide (OnChannelPins s.cfg (s.pwmOut ^^^ s.cfg.inactive)))

theorem inv_of_holds {s : State} (h : invHolds s = true) : s.Inv := by
  simp only [invHolds, Bool.and_eq_true, List.all_eq_true, decide_eq_true_eq] at h
  exact ⟨h.1.1, h.1.2.1, h.1.2.2.1, h.1.2.2.2, h.2.1.1, h.2.1.2, h.2.2⟩

theorem witness_FlipUnderSupersede : (staged .uni .supersede).cfg.swapPolicy = .supersede := by decide

/-- IGNORE with no swap pending and with one pending. -/
theorem witness_FlipUnderIgnore :
    let s := staged .uni .ignore
    (s.cfg.swapPolicy = .ignore ∧ s.queued = s.inUse) ∧
      { s with queued := true }.cfg.swapPolicy = .ignore ∧ { s with queued := true }.queued ≠ s.inUse := by decide

/-- TOGGLE with no swap pending and with one pending. -/
theorem witness_FlipUnderToggle :
    let s := staged .uni .toggle
    (s.cfg.swapPolicy = .toggle ∧ s.queued = s.inUse) ∧
      { s with queued := true }.cfg.swapPolicy = .toggle ∧ { s with queued := true }.queued = (!s.inUse) := by decide

/-- WAIT with no swap pending and with one pending. -/
theorem witness_FlipUnderWait :
    let s := staged .uni .wait
    (s.cfg.swapPolicy = .wait ∧ s.queued = s.inUse) ∧
      { s with queued := true }.cfg.swapPolicy = .wait ∧ { s with queued := true }.queued ≠ s.inUse := by decide

theorem witness_CommandWordsFlipOrNothing :
    (0xFFFFFFFF : Data).getLsbD 0 = true ∧ (0xFFFFFFFE : Data).getLsbD 0 = false := by decide

/-- The last slice of a buffer and the first index beyond it. -/
theorem witness_StatusAndBufferReads :
    (2 : BitVec 4).toNat < (sweeping .uni .supersede).cfg.r ∧ (sweeping .uni .supersede).cfg.r ≤ (3 : BitVec 4).toNat := by
  decide

/-- `sweeping` with one cycle presented. -/
def sweepingWith (m : SweepMode) (p : SwapPolicy) (inp : CycleInput) : State := (sweeping m p).present inp

/-- A cycle that presents FLIP and has a tick. -/
def tickedFlip : CycleInput := { presentWord 0x100800000001 with tickEn := true }

/-- A FLIP performed, a step without reset, a step with reset. -/
theorem witness_ActiveBufferNeverWritten :
    (∃ t, exec .flip (staged .uni .supersede) = .next t) ∧
      (goesOn (sweepingWith .uni .supersede tickedFlip) = true ∧
        (sweepingWith .uni .supersede tickedFlip).nextInput.rst = false) ∧
      goesOn (sweepingWith .uni .supersede resetCycle) = true ∧
      (sweepingWith .uni .supersede resetCycle).nextInput.rst = true :=
  ⟨⟨_, rfl⟩, by decide +kernel⟩

/-- The next edge of `sweepingWith` with a ticked cycle is a boundary expiry. -/
theorem sweepingWith_boundary (p : SwapPolicy) (inp : CycleInput) (hr : inp.rst = false) (ht : inp.tickEn = true) :
    (sweepingWith .uni p inp).ExpiryEdge ∧ (sweepingWith .uni p inp).AtBoundary :=
  ⟨⟨hr, rfl, ht, rfl⟩, rfl⟩

/-- A boundary expiry, and a step that is none. -/
theorem witness_CommitExactlyAtBoundaryExpiry :
    (step (sweepingWith .uni .supersede tickCycle) = .next (after (sweepingWith .uni .supersede tickCycle)) ∧
        (sweepingWith .uni .supersede tickCycle).nextInput.rst = false ∧
        (sweepingWith .uni .supersede tickCycle).ExpiryEdge ∧ (sweepingWith .uni .supersede tickCycle).AtBoundary) ∧
      step (sweeping .uni .supersede) = .next (after (sweeping .uni .supersede)) ∧
      (sweeping .uni .supersede).nextInput.rst = false ∧
      ¬ ((sweeping .uni .supersede).ExpiryEdge ∧ (sweeping .uni .supersede).AtBoundary) :=
  ⟨⟨step_after (by decide +kernel), rfl, sweepingWith_boundary _ _ rfl rfl⟩, step_after (by decide +kernel), rfl,
    fun h => absurd h.1.2.2.1 (by decide)⟩

/-- A FLIP in the boundary cycle (P9), and a FLIP performed. -/
theorem witness_FlipInBoundaryCycle :
    ((sweepingWith .uni .wait tickedFlip).cfg.Admitted ∧ (sweepingWith .uni .wait tickedFlip).ExpiryEdge ∧
        (sweepingWith .uni .wait tickedFlip).AtBoundary ∧ (sweepingWith .uni .wait tickedFlip).nextInput.presentsFlip) ∧
      ∃ t, exec .flip (staged .uni .supersede) = .next t :=
  ⟨⟨by decide +kernel, (sweepingWith_boundary _ _ rfl rfl).1, (sweepingWith_boundary _ _ rfl rfl).2,
    by decide +kernel⟩, ⟨_, rfl⟩⟩

/-- A FLIP before the boundary, a second FLIP that the policy holds or absorbs, then the boundary expiry (P3). -/
def flipBeforeBoundary (p : SwapPolicy) : State :=
  { sweeping .uni p with
    queued := false, inputs := [presentWord 0x100800000001, presentWord 0x100800000001, tickCycle] }

/-- The hypotheses of SwapIsAtomic over one cycle from `s`, and of its last clause, evaluated at once. -/
theorem swapIsAtomic_hypotheses {s : State} (h1 : goesOn s = true) (h2 : goesOn (after s) = true)
    (h3 : goesOn (after (after s)) = true) (hb : (after (after s)).AtBoundary)
    (h : s.FlipActs ∧ (after s).queued = (!(after s).inUse) ∧ 1 ≤ (after s).inputs.length ∧
      ((after s).nextInput.rst = false ∧ ¬ (after s).FlipActs) ∧ (after (after s)).ExpiryEdge ∧
      ¬ (after (after s)).FlipActs) :
    ∃ t u v, s.FlipActs ∧ step s = .next t ∧ t.queued = (!t.inUse) ∧ 1 ≤ t.inputs.length ∧
      (∀ k, k < 1 → ∀ w, steps k t = some w → w.nextInput.rst = false ∧ ¬ w.FlipActs) ∧ steps 1 t = some u ∧
      u.ExpiryEdge ∧ u.AtBoundary ∧ step u = .next v ∧ ¬ u.FlipActs := by
  refine ⟨_, _, _, h.1, step_after h1, h.2.1, h.2.2.1, fun k hk w hw => ?_, ?_, h.2.2.2.2.1, hb, step_after h3,
    h.2.2.2.2.2⟩
  · obtain rfl : k = 0 := by omega
    cases hw
    exact h.2.2.2.1
  · rw [steps_succ_of_next (step_after h2), steps_zero]

/-- A held FLIP before the boundary, and an absorbed one. -/
theorem witness_SwapIsAtomic :
    ∀ p : SwapPolicy, p = .wait ∨ p = .ignore →
      ∃ t u v, (flipBeforeBoundary p).FlipActs ∧ step (flipBeforeBoundary p) = .next t ∧ t.queued = (!t.inUse) ∧
        1 ≤ t.inputs.length ∧
        (∀ k, k < 1 → ∀ w, steps k t = some w → w.nextInput.rst = false ∧ ¬ w.FlipActs) ∧ steps 1 t = some u ∧
        u.ExpiryEdge ∧ u.AtBoundary ∧ step u = .next v ∧ ¬ u.FlipActs := by
  rintro p (rfl | rfl)
  · exact swapIsAtomic_hypotheses (s := flipBeforeBoundary .wait) (by decide +kernel) (by decide +kernel)
      (by decide +kernel) (by show BitVec.toNat _ = _; decide +kernel) (by decide +kernel)
  · exact swapIsAtomic_hypotheses (s := flipBeforeBoundary .ignore) (by decide +kernel) (by decide +kernel)
      (by decide +kernel) (by show BitVec.toNat _ = _; decide +kernel) (by decide +kernel)

/-- A start and a stop, each also where it changes nothing. -/
theorem witness_ControlWriteStartsOrStops :
    (1 : Data).getLsbD 0 = true ∧ (2 : Data).getLsbD 0 = false ∧
      ((sweeping .uni .supersede).Inv ∧ (1 : Data).getLsbD 0 = (sweeping .uni .supersede).en) ∧
      State.reset.Inv ∧ (2 : Data).getLsbD 0 = State.reset.en :=
  ⟨by decide, by decide, ⟨inv_of_holds (by decide +kernel), by decide⟩, inv_of_holds (by decide +kernel), by decide⟩

/-- The first and the last slice, with and without a floor above the quantum (V-SW6). -/
theorem witness_PeriodsAreGeometric :
    let c := Config.default
    (c.Admitted ∧ 0 < c.r ∧ c.periodFloor ≤ 2 ^ c.minExp) ∧
      { c with minExp := 0 }.Admitted ∧ 7 < { c with minExp := 0 }.r := by decide +kernel

/-- A timer tick below the match. -/
def countingTick : State := { sweepingWith .uni .supersede tickCycle with cnt := 0 }

/-- No tick; a tick below the match. -/
theorem witness_TickCountsUpToMatch :
    ((sweeping .uni .supersede).Inv ∧ (sweeping .uni .supersede).cfg.Admitted ∧
        (sweeping .uni .supersede).nextInput.rst = false ∧ (sweeping .uni .supersede).nextInput.req = false ∧
        (sweeping .uni .supersede).nextInput.tickEn = false) ∧
      countingTick.Inv ∧ countingTick.cfg.Admitted ∧ countingTick.nextInput.rst = false ∧
      countingTick.nextInput.req = false ∧ countingTick.en = true ∧ countingTick.nextInput.tickEn = true ∧
      countingTick.cnt ≠ countingTick.matchReg :=
  ⟨⟨inv_of_holds (by decide +kernel), by decide +kernel⟩, inv_of_holds (by decide +kernel), by decide +kernel⟩

/-- A ticked cycle at the last tick of the slice before slice `i`, going `d`. -/
def expiringAt (m : SweepMode) (i : BitVec 4) (d : Dir) : State :=
  { sweepingWith m .supersede tickCycle with slice := i, dir := d }

/-- The wrap, and the expiry before it. -/
theorem witness_ExpiryInUniMode :
    ((expiringAt .uni 2 .up).Inv ∧ (expiringAt .uni 2 .up).cfg.Admitted ∧
        (expiringAt .uni 2 .up).cfg.sweepMode = .uni ∧ (expiringAt .uni 2 .up).ExpiryEdge ∧
        (expiringAt .uni 2 .up).nextInput.req = false ∧
        (expiringAt .uni 2 .up).slice.toNat + 1 = (expiringAt .uni 2 .up).cfg.r) ∧
      (expiringAt .uni 1 .up).Inv ∧ (expiringAt .uni 1 .up).ExpiryEdge ∧
      (expiringAt .uni 1 .up).slice.toNat + 1 < (expiringAt .uni 1 .up).cfg.r :=
  ⟨⟨inv_of_holds (by decide +kernel), by decide +kernel⟩, inv_of_holds (by decide +kernel), by decide +kernel⟩

/-- Both reversals, and one expiry in each direction. -/
theorem witness_ExpiryInBidiMode :
    ((expiringAt .bidi 2 .up).Inv ∧ (expiringAt .bidi 2 .up).cfg.Admitted ∧
        (expiringAt .bidi 2 .up).cfg.sweepMode = .bidi ∧ (expiringAt .bidi 2 .up).ExpiryEdge ∧
        (expiringAt .bidi 2 .up).nextInput.req = false ∧
        (expiringAt .bidi 2 .up).slice.toNat + 1 = (expiringAt .bidi 2 .up).cfg.r) ∧
      ((expiringAt .bidi 1 .up).Inv ∧ (expiringAt .bidi 1 .up).slice.toNat + 1 < (expiringAt .bidi 1 .up).cfg.r) ∧
      ((expiringAt .bidi 1 .down).Inv ∧ 0 < (expiringAt .bidi 1 .down).slice.toNat) ∧
      (expiringAt .bidi 0 .down).Inv ∧ (expiringAt .bidi 0 .down).slice = 0 :=
  ⟨⟨inv_of_holds (by decide +kernel), by decide +kernel⟩, ⟨inv_of_holds (by decide +kernel), by decide +kernel⟩,
    ⟨inv_of_holds (by decide +kernel), by decide +kernel⟩, inv_of_holds (by decide +kernel), by decide +kernel⟩

theorem witness_UniSequence :
    let s := staged .uni .supersede
    1 ≤ s.cfg.r ∧ s.cfg.r ≤ 16 ∧ s.cfg.sweepMode = .uni ∧ s.slice = 0 ∧ s.dir = .up := by decide

/-- R = 3, and R = 1. -/
theorem witness_BidiSequence :
    let s := staged .bidi .supersede
    let u := State.resetFor { small .bidi .supersede with r := 1 }
    (s.cfg.r ≤ 16 ∧ s.cfg.sweepMode = .bidi ∧ s.slice = 0 ∧ s.dir = .up ∧ 2 ≤ s.cfg.r) ∧
      u.cfg.r ≤ 16 ∧ u.cfg.sweepMode = .bidi ∧ u.slice = 0 ∧ u.dir = .up ∧ u.cfg.r = 1 := by decide

/-- The expiry of slice 2 (period 4), then one tick of its four. -/
def expiryThenTick : State := { sweeping .uni .supersede with inputs := [tickCycle, tickCycle] }

theorem witness_SliceStaysForItsPeriod :
    ∃ t u, expiryThenTick.Inv ∧ expiryThenTick.ExpiryEdge ∧ ¬ expiryThenTick.nextInput.presentsStop ∧
      step expiryThenTick = .next t ∧ 1 ≤ t.inputs.length ∧ (∀ inp ∈ t.inputs.take 1, inp.rst = false ∧ ¬ inp.presentsStop) ∧
      tickCount 1 t.inputs < expiryThenTick.cfg.period expiryThenTick.slice.toNat ∧ steps 1 t = some u := by
  refine ⟨after expiryThenTick, after (after expiryThenTick), inv_of_holds (by decide +kernel), by decide +kernel, by decide +kernel,
    step_after (by decide +kernel), by decide +kernel, by decide +kernel, by decide +kernel, ?_⟩
  rw [steps_succ_of_next (step_after (s := after expiryThenTick) (by decide +kernel)), steps_zero]

/-- A start with a tick in its cycle, a FLIP, a staging write, then a tick whose cycle presents a FLIP. -/
def startThenTick : State :=
  { staged .uni .supersede with
    inputs := [{ presentWord 0x1000FFFFFFFF with tickEn := true }, presentWord 0x100800000001,
      presentWord 0x10800000E000, tickedFlip] }

theorem witness_FirstTickAfterStartOutputsSliceZero :
    startThenTick.Inv ∧ startThenTick.cfg.Admitted ∧ startThenTick.en = false ∧
      startThenTick.inputs = { presentWord 0x1000FFFFFFFF with tickEn := true } ::
        ([presentWord 0x100800000001, presentWord 0x10800000E000] ++ tickedFlip :: []) ∧
      { presentWord 0x1000FFFFFFFF with tickEn := true }.rst = false ∧
      { presentWord 0x1000FFFFFFFF with tickEn := true }.presentsStart ∧
      (∀ inp ∈ [presentWord 0x100800000001, presentWord 0x10800000E000],
        inp.rst = false ∧ inp.tickEn = false ∧ ¬ inp.presentsStop) ∧
      tickedFlip.rst = false ∧ tickedFlip.tickEn = true ∧ ¬ tickedFlip.presentsStop :=
  ⟨inv_of_holds (by decide +kernel), by decide +kernel⟩

/-- The last channel and the first one beyond (V-RA1, V-RA3). -/
theorem witness_IntensityWriteStages :
    ((7 : BitVec 5).toNat < State.reset.cfg.n ∧ State.reset.Shaped) ∧ State.reset.cfg.n ≤ (8 : BitVec 5).toNat := by
  decide

theorem witness_IntensityReadsBack :
    State.reset.Shaped ∧ ∃ t, exec (.intWr 7 0xDEADBEEF) State.reset = .next t := ⟨by decide, ⟨_, rfl⟩⟩

theorem witness_ConfigWordsReadBack : State.reset.cfg.Admitted ∧ (staged .bidi .wait).cfg.Admitted := by decide +kernel

theorem witness_PinMaskReadsBack : State.reset.cfg.Admitted := by decide +kernel

theorem witness_ReservedFormsDoNothing :
    isReservedRead 0x008 = true ∧ isReservedRead 0xFFC = true ∧ isReservedWrite 0x004 = true ∧
      isReservedWrite 0x37C = true := by decide

theorem witness_StepRunsDecodedInstruction :
    let s := sweepingWith .uni .supersede tickedFlip
    s.cfg.Admitted ∧ s.inputs = tickedFlip :: [] ∧ tickedFlip.rst = false ∧ tickedFlip.req = true ∧
      (Instr.flip).wellFormed = true ∧ txnWord tickedFlip.we tickedFlip.addr tickedFlip.wdata = encode .flip := by
  decide +kernel

theorem witness_ResetCycleFromAnyState :
    let s := { sweeping .uni .supersede with inputs := [{ tickedFlip with rst := true }, resetCycle] }
    s.cfg.Admitted ∧ s.nextInput.rst = true ∧ (after s).nextInput.rst = true := by decide +kernel

theorem witness_RegistersAfterReset : tableTwo.Admitted := by decide +kernel

theorem witness_StepKeepsInvariant :
    (sweepingWith .uni .supersede tickedFlip).Inv ∧
      step (sweepingWith .uni .supersede tickedFlip) = .next (after (sweepingWith .uni .supersede tickedFlip)) :=
  ⟨inv_of_holds (by decide +kernel), step_after (by decide +kernel)⟩

/-- A read; two starts, two probe writes, two staging writes; a reserved write; two FLIPs under TOGGLE. -/
theorem witness_ReadsAndRepeatedWrites :
    isRead .statusRd = true ∧ (∃ t, exec (.ctrlWr 1) State.reset = .next t) ∧
      (∃ t, exec (.lutinWr 5) State.reset = .next t) ∧ (∃ t, exec (.intWr 7 5) State.reset = .next t) ∧
      (State.reset.Inv ∧ (2 : Data).getLsbD 0 = State.reset.en) ∧ isReservedWrite 0x030 = true ∧
      (staged .uni .toggle).cfg.swapPolicy = .toggle ∧
      ∃ t u, exec .flip (staged .uni .toggle) = .next t ∧ exec .flip t = .next u :=
  ⟨rfl, ⟨_, rfl⟩, ⟨_, rfl⟩, ⟨_, rfl⟩, ⟨inv_of_holds (by decide +kernel), by decide⟩, by decide, rfl, ⟨_, _, rfl, rfl⟩⟩

/-- A held FLIP, and a cycle that is not held. -/
theorem witness_OnlyWaitFlipAndResetHold :
    (step (sweepingWith .uni .wait (presentWord 0x100800000001)) =
        .next (after (sweepingWith .uni .wait (presentWord 0x100800000001))) ∧
        (after (sweepingWith .uni .wait (presentWord 0x100800000001))).ready = false ∧
        (sweepingWith .uni .wait (presentWord 0x100800000001)).nextInput.rst = false) ∧
      step State.reset = .next (after State.reset) ∧ (after State.reset).ready = true :=
  ⟨⟨step_after (by decide +kernel), by decide +kernel⟩, step_after (by decide +kernel), by decide +kernel⟩

/-- Two cycles that present FLIP, with a tick, while a swap is pending and the sequencer is stopped. -/
def heldStopped : State := { staged .uni .wait with queued := true, inputs := [tickedFlip, tickedFlip] }

/-- The same running, without a tick. -/
def heldRunning : State := { sweeping .uni .wait with inputs := [presentWord 0x100800000001] }

theorem witness_WaitDeadlock :
    (heldStopped.cfg.Admitted ∧ heldStopped.cfg.swapPolicy = .wait ∧ heldStopped.queued ≠ heldStopped.inUse ∧
        1 < heldStopped.inputs.length ∧ ∀ inp ∈ heldStopped.inputs.take 2,
          inp.rst = false ∧ inp.presentsFlip ∧ (heldStopped.en = false ∨ inp.tickEn = false)) ∧
      heldRunning.cfg.Admitted ∧ heldRunning.cfg.swapPolicy = .wait ∧ heldRunning.queued ≠ heldRunning.inUse ∧
        0 < heldRunning.inputs.length ∧ ∀ inp ∈ heldRunning.inputs.take 1,
          inp.rst = false ∧ inp.presentsFlip ∧ (heldRunning.en = false ∨ inp.tickEn = false) := by
  decide +kernel

/-- A start, a staging write, a FLIP and a probe write, each of which changes its field. -/
theorem witness_EveryFieldHasItsWriters :
    (∃ t, exec (.ctrlWr 1) (staged .uni .supersede) = .next t ∧ t.en ≠ (staged .uni .supersede).en) ∧
      (∃ t, exec (.intWr 0 5) (staged .uni .supersede) = .next t ∧ t.intensity ≠ (staged .uni .supersede).intensity) ∧
      (∃ t, exec .flip (staged .uni .supersede) = .next t ∧ t.queued ≠ (staged .uni .supersede).queued) ∧
      ∃ t, exec (.lutinWr 5) (staged .uni .supersede) = .next t ∧ t.lutIn ≠ (staged .uni .supersede).lutIn :=
  ⟨⟨_, rfl, by decide⟩, ⟨_, rfl, by decide⟩, ⟨_, rfl, by decide⟩, ⟨_, rfl, by decide⟩⟩

/-- Two channels, one of them at 0, two reset cycles, START before PWM_FLIP. -/
def booting : State :=
  { staged .uni .wait with inputs := (bootLines 1 true [0, 0x6000]).map HostLine.cycle ++ [tickCycle] }

theorem witness_BootStagesFirstFrame :
    booting.cfg.Admitted ∧ ([0, 0x6000] : List Intensity).length = booting.cfg.n ∧
      booting.inputs = (bootLines 1 true [0, 0x6000]).map HostLine.cycle ++ [tickCycle] := by decide +kernel

end Sys2Proof.Tests
end

/-! ### Decoding a write by its slot (30_encoding.md R76 to R78) -/

namespace Sys2Proof

/-- Where the search of R76 stops on a write: no read row takes it, so CTRL, CMD by D[0], LUT_IN, the INTENSITY window and
RSV_WR are left, in this order. -/
theorem find?_takes_write (a : Addr) (d : Data) :
    decodeTable.find? (·.takes (txnWord true a d)) = decodeTable[
      if a &&& 0xFFC = 0x000 then 0
      else if a &&& 0xFFC = 0x008 then (if d.getLsbD 0 then 3 else 4)
      else if a &&& 0xFFC = 0x00C then 5
      else if a &&& 0xF80 = 0x080 then 15
      else 21]? := by
  have hbit := data_and_one d
  split_ifs with hctrl hcmd hd hlut hint
  all_goals simp_all [decodeTable, registerRows, rsvRdRow, rsvWrRow, DecodeRow.takes_txnWord,
    txnAddr, txnData, beq_eq_decide]

/-- What a write decodes to, by its slot. -/
theorem decode_write (a : Addr) (d : Data) :
    decode (txnWord true a d) =
      if a &&& 0xFFC = 0x000 then .ctrlWr d
      else if a &&& 0xFFC = 0x008 then (if d.getLsbD 0 then .flip else .cmdNop d)
      else if a &&& 0xFFC = 0x00C then .lutinWr d
      else if a &&& 0xF80 = 0x080 then .intWr (a.extractLsb' 2 5) d
      else .rsvWr (a &&& 0xFFC) d := by
  rw [decode, find?_takes_write, ← txnSlot_txnWord true a d, ← txnIndex_txnWord true a d]
  split_ifs <;> simp [decodeTable, registerRows, rsvWrRow]

/-- Clearing A[1:0] leaves the address of a word slot as it is (20_memory.md R56, R59). -/
theorem and_0xFFC_of_isSlot {a : Addr} (h : isSlot a = true) : a &&& 0xFFC = a := by
  have hlow : a &&& 3 = 0 := by simpa [isSlot] using h
  calc a &&& 0xFFC = (a &&& 0xFFC) ||| (a &&& 3) := by rw [hlow]; exact BitVec.or_zero.symm
    _ = a := by rw [← BitVec.and_or_distrib_left]; exact BitVec.and_allOnes

/-- A[11:7] alone, as a number: it names the window of 32 words an address lies in (20_memory.md R62). -/
theorem toNat_and_0xF80 (a : Addr) : (a &&& 0xF80).toNat = a.toNat / 128 * 128 := by
  have hshift : a &&& (0xF80 : Addr) = a >>> 7 <<< 7 := by rw [BitVec.shiftLeft_ushiftRight]; rfl
  have := a.isLt
  rw [hshift, BitVec.toNat_shiftLeft, BitVec.toNat_ushiftRight, Nat.shiftRight_eq_div_pow, Nat.shiftLeft_eq]
  omega

/-- No write to the INTENSITY window is reserved (R77, R78). -/
theorem isReservedWrite_intensity {a : Addr} (hwin : a &&& 0xF80 = 0x080) : isReservedWrite a = false := by
  have hnat := toNat_and_0xF80 a
  rw [hwin] at hnat
  have hbounds : 0x080 ≤ a.toNat ∧ a.toNat < 0x100 := by
    change 128 = _ at hnat
    omega
  simp only [isReservedWrite, inReservedRange, inWindow, BitVec.ofNat_eq_ofNat, BitVec.le_def, BitVec.toNat_ofNat,
    ← BitVec.toNat_inj, Nat.reducePow, Nat.reduceMod, Bool.and_eq_false_imp, Bool.or_eq_false_iff, decide_eq_true_eq,
    decide_eq_false_iff_not, beq_eq_false_iff_ne, ne_eq]
  omega

/-- A write to a reserved slot or a read-only register decodes as RSV_WR (R77, R78). -/
theorem decode_of_isReservedWrite {a : Addr} (h : isReservedWrite a = true) (d : Data) :
    decode (txnWord true a d) = .rsvWr a d := by
  have hslot : a &&& 0xFFC = a := and_0xFFC_of_isSlot (by simp_all [isReservedWrite])
  have hctrl : a ≠ 0x000 := fun ha => by rw [ha] at h; cases h
  have hcmd : a ≠ 0x008 := fun ha => by rw [ha] at h; cases h
  have hlut : a ≠ 0x00C := fun ha => by rw [ha] at h; cases h
  have hint : a &&& 0xF80 ≠ 0x080 := fun hwin => by simp [isReservedWrite_intensity hwin] at h
  rw [decode_write, hslot, if_neg hctrl, if_neg hcmd, if_neg hlut, if_neg hint]

end Sys2Proof

namespace Sys2Proof.Machine

/-! ### One equation per transaction -/

theorem exec_ctrlWr_start {d : Data} (h : d.getLsbD 0 = true) (s : State) :
    exec (.ctrlWr d) s = .next s.start.writeReply := by
  show execCtrlWr d s = _
  rw [execCtrlWr, dataBit0, h, if_pos rfl]

theorem exec_ctrlWr_stop {d : Data} (h : d.getLsbD 0 = false) (s : State) :
    exec (.ctrlWr d) s = .next s.stop.writeReply := by
  show execCtrlWr d s = _
  rw [execCtrlWr, dataBit0, h, if_neg Bool.false_ne_true]

theorem exec_lutinWr (d : Data) (s : State) :
    exec (.lutinWr d) s = .next (s.setLutIn (dataLow16 d)).writeReply := rfl

theorem exec_intWr (c : BitVec 5) (d : Data) (s : State) :
    exec (.intWr c d) s = .next (s.setIntensity c.toNat (dataLow16 d)).writeReply := rfl

theorem exec_flip_toggle {s : State} (h : s.cfg.swapPolicy = .toggle) :
    exec .flip s = .next (s.encodeFree.setQueued (!s.queued)).writeReply := by
  show execFlip s = _
  rw [execFlip, h]

/-- Every transaction with W = 0 is a performed read: it answers a value and changes nothing else (20_memory.md R61, R65). -/
theorem exec_of_isRead {i : Instr} (h : isRead i = true) (s : State) : ∃ v, exec i s = .next (s.readReply v) := by
  cases i
  case ctrlWr | flip | cmdNop | lutinWr | intWr | rsvWr => cases h
  all_goals exact ⟨_, rfl⟩

/-- A write to a reserved slot or a read-only register only answers (44_register_access.md R152). -/
theorem busPhase_of_isReservedWrite {a : Addr} (h : isReservedWrite a = true) (s : State) (d : Data) :
    s.busPhase true a d = .next s.writeReply := by
  rw [State.busPhase, decode_of_isReservedWrite h]
  rfl

/-! ### Register writes made twice -/

theorem State.start_twice (s : State) : s.start.writeReply.start.writeReply = s.start.writeReply := rfl

theorem State.stop_twice (s : State) : s.stop.writeReply.stop.writeReply = s.stop.writeReply := rfl

theorem State.setLutIn_twice (s : State) (v : Intensity) :
    ((s.setLutIn v).writeReply.setLutIn v).writeReply = (s.setLutIn v).writeReply := rfl

theorem State.setIntensity_twice (s : State) (c : Nat) (v : Intensity) :
    ((s.setIntensity c v).writeReply.setIntensity c v).writeReply = (s.setIntensity c v).writeReply := by
  ext1
  case h2 => by_cases h : c < s.cfg.n <;> simp [State.setIntensity_intensity, h]
  all_goals simp

/-- CTRL_WR, LUTIN_WR and INT_WR are idempotent (20_memory.md R61). -/
theorem exec_write_twice {i : Instr} {s t : State}
    (hi : (∃ d, i = .ctrlWr d) ∨ (∃ d, i = .lutinWr d) ∨ ∃ c d, i = .intWr c d) (h : exec i s = .next t) :
    exec i t = .next t := by
  obtain ⟨d, rfl⟩ | ⟨d, rfl⟩ | ⟨c, d, rfl⟩ := hi
  · cases hd : d.getLsbD 0
    · obtain rfl : s.stop.writeReply = t := Host.Outcome.next.inj ((exec_ctrlWr_stop hd s).symm.trans h)
      rw [exec_ctrlWr_stop hd, State.stop_twice]
    · obtain rfl : s.start.writeReply = t := Host.Outcome.next.inj ((exec_ctrlWr_start hd s).symm.trans h)
      rw [exec_ctrlWr_start hd, State.start_twice]
  · obtain rfl : (s.setLutIn (dataLow16 d)).writeReply = t := Host.Outcome.next.inj h
    rw [exec_lutinWr, State.setLutIn_twice]
  · obtain rfl : (s.setIntensity c.toNat (dataLow16 d)).writeReply = t := Host.Outcome.next.inj h
    rw [exec_intWr, State.setIntensity_twice]

/-! ### Writing the current value of EN -/

/-- Starting a running sequencer changes nothing (43_sweep.md R137). -/
theorem State.start_of_en {s : State} (h : s.en = true) : s.start = s := by
  ext1 <;> simp [h]

/-- Stopping a stopped sequencer changes nothing: it already holds the start position (R137, (I4) of 10_state.md R38). -/
theorem State.stop_of_cleared {s : State} (h : s.en = false) (hclear : s.StoppedIsCleared) : s.stop = s := by
  obtain ⟨hslice, hdir, hcnt, hmatch, hpwm⟩ := hclear h
  ext1 <;> simp [h, hslice, hdir, hcnt, hmatch, hpwm]

/-- A CTRL_WR of the current value of EN only answers (20_memory.md R61). -/
theorem exec_ctrlWr_current {s : State} {d : Data} (hclear : s.StoppedIsCleared) (hd : d.getLsbD 0 = s.en) :
    exec (.ctrlWr d) s = .next s.writeReply := by
  cases hen : s.en
  · rw [exec_ctrlWr_stop (hd.trans hen), State.stop_of_cleared hen hclear]
  · rw [exec_ctrlWr_start (hd.trans hen), State.start_of_en hen]

/-! ### FLIP under TOGGLE -/

/-- A FLIP under TOGGLE inverts `queued` and keeps the parameters (42_swap.md R112). -/
theorem flip_toggle_queued {s t : State} (hp : s.cfg.swapPolicy = .toggle) (h : exec .flip s = .next t) :
    t.queued = (!s.queued) ∧ t.cfg = s.cfg := by
  obtain rfl : (s.encodeFree.setQueued (!s.queued)).writeReply = t :=
    Host.Outcome.next.inj ((exec_flip_toggle hp).symm.trans h)
  simp [State.encodeFree]

/-- Settles O50, clause by clause of R61: reads, repeated writes, the current value of EN, reserved writes, and two FLIPs
under TOGGLE, the second of which inverts `queued` again. -/
theorem readsAndRepeatedWrites : Obligations.ReadsAndRepeatedWrites := by
  refine ⟨fun i s hi => exec_of_isRead hi s, fun i s t => exec_write_twice, ?_,
    fun s a d ha => busPhase_of_isReservedWrite ha s d, ?_⟩
  · rintro s d ⟨-, -, hclear, -, -⟩ hd
    exact exec_ctrlWr_current hclear hd
  · intro s t u hp hst htu
    obtain ⟨-, hcfg⟩ := flip_toggle_queued hp hst
    obtain ⟨hqueued, -⟩ := flip_toggle_queued (hcfg ▸ hp) htu
    rw [hqueued]
    exact Bool.not_ne_self _

end Sys2Proof.Machine

/-! ### Decoding a read by its slot (30_encoding.md R76 to R78) -/

namespace Sys2Proof

/-- The search of R76 row by row: the first row of the list that takes the word decodes it, and RSV_WR when none does. -/
def decodeBy (w : Txn) : List DecodeRow → Instr
  | [] => rsvWrRow.build w
  | row :: rows => if row.takes w then row.build w else decodeBy w rows

/-- `decodeBy` is the search `decode` makes, on any list of rows. -/
theorem decodeBy_eq_find? (w : Txn) (rows : List DecodeRow) :
    decodeBy w rows = ((rows.find? (·.takes w)).getD rsvWrRow).build w := by
  induction rows with
  | nil => rfl
  | cons row rows ih =>
    rw [decodeBy, List.find?_cons, ih]
    cases row.takes w <;> rfl

/-- `decode` searches the whole table. -/
theorem decode_eq_decodeBy (w : Txn) : decode w = decodeBy w decodeTable := by
  rw [decodeBy_eq_find?, decode]
  cases decodeTable.find? (·.takes w) <;> rfl

/-- What a read decodes to, by its slot and, in the four windows, by A[11:7]. -/
theorem decode_read (a : Addr) (d : Data) :
    decode (txnWord false a d) =
      if a &&& 0xFFC = 0x000 then .ctrlRd
      else if a &&& 0xFFC = 0x004 then .statusRd
      else if a &&& 0xFFC = 0x00C then .lutinRd
      else if a &&& 0xFFC = 0x010 then .lutoutRd
      else if a &&& 0xFFC = 0x014 then .config0Rd
      else if a &&& 0xFFC = 0x018 then .config1Rd
      else if a &&& 0xFFC = 0x01C then .config2Rd
      else if a &&& 0xFFC = 0x020 then .seqRd
      else if a &&& 0xFFC = 0x024 then .tcntRd
      else if a &&& 0xFFC = 0x028 then .tmatchRd
      else if a &&& 0xFFC = 0x02C then .portoutRd
      else if a &&& 0xF80 = 0x080 then .intRd (a.extractLsb' 2 5)
      else if a &&& 0xF80 = 0x100 then .bufRd (a.getLsbD 6) (a.extractLsb' 2 4)
      else if a &&& 0xF80 = 0x200 then .pinmaskRd (a.extractLsb' 2 5)
      else if a &&& 0xF80 = 0x300 then .lutnodeRd (a.extractLsb' 2 5)
      else .rsvRd (a &&& 0xFFC) := by
  simp only [decode_eq_decodeBy, decodeTable, registerRows, List.cons_append, List.nil_append, decodeBy,
    DecodeRow.takes_txnWord]
  simp [rsvRdRow, txnIndex_txnWord, txnSlice_txnWord, txnBuffer_txnWord, txnSlot_txnWord, txnAddr, txnData]

/-- A read's data bits do not change what it decodes to (R74). -/
theorem decode_read_data (a : Addr) (d e : Data) : decode (txnWord false a d) = decode (txnWord false a e) := by
  rw [decode_read, decode_read]

/-! ### The windows and the reserved slots -/

/-- The addresses of a window of 32 words (20_memory.md R62) are those with its A[11:7]. -/
theorem and_0xF80_eq_iff (a base : Addr) :
    a &&& 0xF80 = base ↔ base.toNat % 128 = 0 ∧ base.toNat ≤ a.toNat ∧ a.toNat < base.toNat + 128 := by
  rw [← BitVec.toNat_inj, toNat_and_0xF80]
  omega

/-- The reserved slots of R77 in arithmetic. -/
theorem inReservedRange_iff (a : Addr) :
    inReservedRange a = true ↔ (48 ≤ a.toNat ∧ a.toNat ≤ 124) ∨ (384 ≤ a.toNat ∧ a.toNat ≤ 508) ∨
      (640 ≤ a.toNat ∧ a.toNat ≤ 764) ∨ (896 ≤ a.toNat ∧ a.toNat ≤ 4092) := by
  simp [inReservedRange, BitVec.le_def, or_assoc]

/-- What the reserved reads are (R77, R78). -/
theorem isReservedRead_iff (a : Addr) :
    isReservedRead a = true ↔ isSlot a = true ∧ (inReservedRange a = true ∨ a = 0x008) := by
  simp [isReservedRead]

/-- What the reserved writes are: those to a reserved slot (R77) and to a read-only register (R78), that is STATUS, LUT_OUT
to PORTOUT, the slice store, PINMASK and LUTNODE. -/
theorem isReservedWrite_iff (a : Addr) :
    isReservedWrite a = true ↔ isSlot a = true ∧ (inReservedRange a = true ∨ a = 0x004 ∨ (0x010 ≤ a ∧ a ≤ 0x02C) ∨
      (0x100 ≤ a ∧ a ≤ 0x17C) ∨ (0x200 ≤ a ∧ a ≤ 0x27C) ∨ (0x300 ≤ a ∧ a ≤ 0x37C)) := by
  simp only [isReservedWrite, inWindow, Bool.and_eq_true, Bool.or_eq_true, decide_eq_true_eq, beq_iff_eq, or_assoc,
    BitVec.le_def, BitVec.ofNat_eq_ofNat, BitVec.toNat_ofNat, Nat.reducePow, Nat.reduceMod]
  refine and_congr_right fun _ => or_congr_right (or_congr_right ?_)
  omega

/-- No reserved read lies in a window (R77, R78). -/
theorem and_0xF80_ne_of_isReservedRead {a base : Addr} (h : isReservedRead a = true)
    (hbase : base.toNat = 128 ∨ base.toNat = 256 ∨ base.toNat = 512 ∨ base.toNat = 768) : a &&& 0xF80 ≠ base := by
  obtain ⟨-, hres⟩ := (isReservedRead_iff a).mp h
  have hnat : inReservedRange a = true ∨ a.toNat = 8 := hres.imp_right (congrArg BitVec.toNat)
  rw [inReservedRange_iff] at hnat
  intro hwin
  obtain ⟨-, hlow, hhigh⟩ := (and_0xF80_eq_iff a base).mp hwin
  omega

/-- A read of a reserved slot or of CMD decodes as RSV_RD (R77, R78). -/
theorem decode_of_isReservedRead {a : Addr} (h : isReservedRead a = true) (d : Data) :
    decode (txnWord false a d) = .rsvRd a := by
  have hslot : a &&& 0xFFC = a := and_0xFFC_of_isSlot ((isReservedRead_iff a).mp h).1
  -- `decode_read` asks for eleven single registers, then for the four windows.
  have hreg (r : Addr) (hr : isReservedRead r = false) : a ≠ r := by
    rintro rfl
    simp [h] at hr
  rw [decode_read, hslot]
  iterate 11 rw [if_neg (hreg _ (by decide))]
  iterate 4 rw [if_neg (and_0xF80_ne_of_isReservedRead h (by decide))]

end Sys2Proof

namespace Sys2Proof.Machine

/-! ### The bus phase -/

/-- A read of a reserved slot or of CMD answers 0 and changes nothing (44_register_access.md R151). -/
theorem busPhase_of_isReservedRead {a : Addr} (h : isReservedRead a = true) (s : State) (d : Data) :
    s.busPhase false a d = .next (s.readReply 0) := by
  rw [State.busPhase, decode_of_isReservedRead h]
  rfl

/-- Every transaction answers a next state (R77). -/
theorem exec_next (i : Instr) (s : State) : ∃ t, exec i s = .next t := by
  cases i
  case flip =>
    obtain ⟨-, -, h⟩ | ⟨-, -, h⟩ | ⟨_, h, -⟩ := execFlip_cases s
    all_goals exact ⟨_, h⟩
  all_goals exact ⟨_, rfl⟩

/-- Settles O5: a reserved slot is a reserved access in both directions, and no transaction stops the machine. -/
theorem reservedSlotsReadZeroIgnoreWrites : Obligations.ReservedSlotsReadZeroIgnoreWrites := by
  refine ⟨fun s a d hslot hres => ⟨?_, ?_⟩, fun s we a d => exec_next _ s⟩
  · exact busPhase_of_isReservedRead ((isReservedRead_iff a).mpr ⟨hslot, .inl hres⟩) s d
  · exact busPhase_of_isReservedWrite ((isReservedWrite_iff a).mpr ⟨hslot, .inl hres⟩) s d

/-- Settles O6: both are reserved accesses, which only answer. -/
theorem wrongDirectionAccessesAreReserved : Obligations.WrongDirectionAccessesAreReserved := by
  refine ⟨fun s a d hslot hro => ?_, fun s d => ?_⟩
  · have hres := (isReservedWrite_iff a).mpr ⟨hslot, .inr hro⟩
    exact ⟨decode_of_isReservedWrite hres d, busPhase_of_isReservedWrite hres s d⟩
  · have hres : isReservedRead 0x008 = true := by decide
    exact ⟨decode_of_isReservedRead hres d, busPhase_of_isReservedRead hres s d⟩

/-! ### The data bits a write names (30_encoding.md R79) -/

/-- CTRL_WR reads D[0] alone (43_sweep.md R137). -/
theorem busPhase_ctrl_congr (s : State) {d e : Data} (h : d.getLsbD 0 = e.getLsbD 0) :
    s.busPhase true 0x000 d = s.busPhase true 0x000 e := by
  have hdecode (v : Data) : decode (txnWord true 0x000 v) = .ctrlWr v := by rw [decode_write, if_pos (by decide)]
  rw [State.busPhase, State.busPhase, hdecode, hdecode]
  cases hd : d.getLsbD 0
  · rw [exec_ctrlWr_stop hd, exec_ctrlWr_stop (h ▸ hd)]
  · rw [exec_ctrlWr_start hd, exec_ctrlWr_start (h ▸ hd)]

/-- A CMD write reads D[0] alone: FLIP or CMD_NOP (42_swap.md R108, R114). -/
theorem busPhase_cmd_congr (s : State) {d e : Data} (h : d.getLsbD 0 = e.getLsbD 0) :
    s.busPhase true 0x008 d = s.busPhase true 0x008 e := by
  have hcmd (v : Data) : s.busPhase true 0x008 v = if v.getLsbD 0 then exec .flip s else .next s.writeReply := by
    rw [State.busPhase, decode_write, if_neg (by decide), if_pos (by decide)]
    split <;> rfl
  rw [hcmd, hcmd, h]

/-- LUTIN_WR reads D[15:0] alone (40_lut.md R94). -/
theorem busPhase_lutIn (s : State) (d : Data) :
    s.busPhase true 0x00C d = .next (s.setLutIn (dataLow16 d)).writeReply := by
  rw [State.busPhase, decode_write, if_neg (by decide), if_neg (by decide), if_pos (by decide)]
  rfl

/-- INT_WR reads D[15:0] alone (44_register_access.md R144). -/
theorem busPhase_intensity {a : Addr} (hwin : a &&& 0xF80 = 0x080) (s : State) (d : Data) :
    s.busPhase true a d = .next (s.setIntensity (a.extractLsb' 2 5).toNat (dataLow16 d)).writeReply := by
  have hslot (r : Addr) (hr : r &&& 0xF80 = 0) : a &&& 0xFFC ≠ r := by
    rintro rfl
    rw [BitVec.and_assoc] at hr
    exact absurd (hwin.symm.trans hr) (by decide)
  rw [State.busPhase, decode_write, if_neg (hslot _ (by decide)), if_neg (hslot _ (by decide)),
    if_neg (hslot _ (by decide)), if_pos hwin]
  rfl

/-- Settles O7, register by register: CTRL and CMD by D[0], LUT_IN and the INTENSITY window by D[15:0], reserved writes
and reads by no data bit. -/
theorem unusedDataBitsIgnored : Obligations.UnusedDataBitsIgnored := by
  refine fun s d e => ⟨fun h0 => ⟨busPhase_ctrl_congr s h0, busPhase_cmd_congr s h0⟩, fun h16 => ?_, fun a => ⟨?_, ?_⟩⟩
  · have hlow : dataLow16 d = dataLow16 e := by
      simp only [dataLow16, BitVec.setWidth_eq_extractLsb' (show 16 ≤ 32 by decide), h16]
    refine ⟨by rw [busPhase_lutIn, busPhase_lutIn, hlow], fun a hlo hhi => ?_⟩
    have hwin : a &&& 0xF80 = 0x080 := by
      refine (and_0xF80_eq_iff a _).mpr ⟨rfl, hlo, ?_⟩
      exact Nat.lt_of_le_of_lt hhi (by decide)
    rw [busPhase_intensity hwin, busPhase_intensity hwin, hlow]
  · intro h
    rw [busPhase_of_isReservedWrite h, busPhase_of_isReservedWrite h]
  · rw [State.busPhase, State.busPhase, decode_read_data a d e]

end Sys2Proof.Machine

/-! ### The sums of the lookup table (40_lut.md R85 to R89, 00_scope.md R21) -/

namespace Sys2Proof

/-- The right shift of R85 is the division by `2^LUT_SHIFT`. -/
theorem NumParams.lutSum_eq_div (p : NumParams) (k off : Nat) :
    p.lutSum k off = p.lutBaseAt k + p.lutSlopeAt k * off / 2 ^ p.lutShift := by
  rw [NumParams.lutSum, Nat.shiftRight_eq_div_pow]

/-- At offset 0 the sum is the node's base. -/
@[simp] theorem NumParams.lutSum_zero (p : NumParams) (k : Nat) : p.lutSum k 0 = p.lutBaseAt k := by
  simp [NumParams.lutSum_eq_div]

/-- Inside a node the sum grows with the offset, because the slope is unsigned. -/
theorem NumParams.lutSum_mono (p : NumParams) (k : Nat) {off off' : Nat} (h : off ≤ off') :
    p.lutSum k off ≤ p.lutSum k off' := by
  rw [p.lutSum_eq_div, p.lutSum_eq_div]
  exact Nat.add_le_add_left (Nat.div_le_div_right (Nat.mul_le_mul_left _ h)) _

/-- A node of the identity table adds the offset to its base (R89). -/
theorem NumParams.lutSum_identity {p : NumParams} {k : Nat} (off : Nat)
    (h : p.lutBaseAt k = 2048 * k ∧ p.lutSlopeAt k = 1 <<< p.lutShift) : p.lutSum k off = 2048 * k + off := by
  obtain ⟨hbase, hslope⟩ := h
  rw [p.lutSum_eq_div, hbase, hslope, Nat.one_shiftLeft, Nat.mul_div_cancel_left _ (Nat.two_pow_pos _)]

/-- Saturation keeps the order (R87). -/
theorem sat16_mono {v w : Nat} (h : v ≤ w) : sat16 v ≤ sat16 w := min_le_min_right _ h

/-- Saturation leaves a 16-bit value as it is. -/
theorem sat16_of_le {v : Nat} (h : v ≤ 65535) : sat16 v = v := min_eq_left h

/-- CHK_LUT_RANGE in arithmetic. -/
theorem NumParams.passes_chkLutRange {p : NumParams} :
    p.passes .chkLutRange = true ↔ ∀ k, k < 32 → p.lutBaseAt k ≤ 65535 ∧ p.lutSlopeAt k ≤ 65535 := by
  simp [NumParams.passes]

/-- CHK_LUT_MONO in arithmetic. -/
theorem NumParams.passes_chkLutMono {p : NumParams} :
    p.passes .chkLutMono = true ↔ ∀ k, k < 31 → sat16 (p.lutSum k 2047) ≤ p.lutBaseAt (k + 1) := by
  simp [NumParams.passes]

/-- At offset 0 saturation has no effect, because the bases are 16-bit (R92). -/
theorem NumParams.sat16_lutSum_zero {p : NumParams} (h : p.passes .chkLutRange = true) {k : Nat} (hk : k < 32) :
    sat16 (p.lutSum k 0) = p.lutBaseAt k := by
  rw [p.lutSum_zero, sat16_of_le (p.passes_chkLutRange.mp h k hk).1]

/-- No value of a node exceeds the base of a later node: CHK_LUT_MONO, chained from node to node (R91). -/
theorem NumParams.sat16_lutSum_le_base {p : NumParams} (hrange : p.passes .chkLutRange = true)
    (hmono : p.passes .chkLutMono = true) {j k off : Nat} (hoff : off ≤ 2047) (hjk : j < k) (hk : k < 32) :
    sat16 (p.lutSum j off) ≤ p.lutBaseAt k := by
  have across (i o : Nat) (ho : o ≤ 2047) (hi : i < 31) : sat16 (p.lutSum i o) ≤ p.lutBaseAt (i + 1) :=
    (sat16_mono (p.lutSum_mono i ho)).trans (p.passes_chkLutMono.mp hmono i hi)
  induction k, hjk using Nat.le_induction with
  | base => exact across j off hoff (by omega)
  | succ k _ ih =>
    calc sat16 (p.lutSum j off) ≤ p.lutBaseAt k := ih (by omega)
      _ = sat16 (p.lutSum k 0) := (p.sat16_lutSum_zero hrange (by omega)).symm
      _ ≤ p.lutBaseAt (k + 1) := across k 0 (by omega) (by omega)

end Sys2Proof

namespace Sys2Proof.Machine

/-! ### `correct` on numbers (40_lut.md R85 to R92) -/

/-- The corrected intensity is the saturated sum of its node at its offset (R85, R86). -/
theorem toNat_correct (c : Config) (x : Intensity) :
    (correct c x).toNat = sat16 (c.lutSum (x.toNat / 2048) (x.toNat % 2048)) := by
  rw [correct_eq_sat16]
  exact toNat_ofNat_sat16 _

/-- `correct` at offset `off` of node `k`. -/
theorem toNat_correct_node (c : Config) {k off : Nat} (hk : k < 32) (hoff : off < 2048) :
    (correct c (BitVec.ofNat 16 (2048 * k + off))).toNat = sat16 (c.lutSum k off) := by
  have hx : (BitVec.ofNat 16 (2048 * k + off)).toNat = 2048 * k + off := by
    rw [BitVec.toNat_ofNat]
    omega
  rw [toNat_correct, hx, show (2048 * k + off) / 2048 = k by omega, show (2048 * k + off) % 2048 = off by omega]

/-- At the first input of a node `correct` is the node's base (R92). -/
theorem toNat_correct_node_start {c : Config} (h : c.passes .chkLutRange = true) {k : Nat} (hk : k < 32) :
    (correct c (BitVec.ofNat 16 (2048 * k))).toNat = c.lutBaseAt k :=
  (toNat_correct_node c hk (by decide : 0 < 2048)).trans (c.sat16_lutSum_zero h hk)

/-- Settles O8: `correct` is a saturated sum, and its shift is a division. -/
theorem correctIsSaturatedInterpolation : Obligations.CorrectIsSaturatedInterpolation := by
  intro c x
  rw [toNat_correct, c.lutSum_eq_div, sat16]

/-- With CHK_LUT_RANGE and CHK_LUT_MONO `correct` is monotonic: inside a node by the unsigned slope, from node to node
through the base of the later one (R91). -/
theorem correct_mono {c : Config} (hrange : c.passes .chkLutRange = true) (hmono : c.passes .chkLutMono = true)
    {a b : Intensity} (hab : a.toNat ≤ b.toNat) : (correct c a).toNat ≤ (correct c b).toNat := by
  rw [toNat_correct, toNat_correct]
  have hb := b.isLt
  obtain hnode | hnode : a.toNat / 2048 = b.toNat / 2048 ∨ a.toNat / 2048 < b.toNat / 2048 := by omega
  · rw [hnode]
    exact sat16_mono (c.lutSum_mono _ (by omega))
  · calc sat16 (c.lutSum (a.toNat / 2048) (a.toNat % 2048))
        ≤ c.lutBaseAt (b.toNat / 2048) := c.sat16_lutSum_le_base hrange hmono (by omega) hnode (by omega)
      _ = sat16 (c.lutSum (b.toNat / 2048) 0) := (c.sat16_lutSum_zero hrange (by omega)).symm
      _ ≤ sat16 (c.lutSum (b.toNat / 2048) (b.toNat % 2048)) := sat16_mono (c.lutSum_mono _ (Nat.zero_le _))

/-- Settles O9: monotonic by `correct_mono`; where CHK_LUT_MONO fails at node `k`, the decrease is from the last input of
that node to the first of the next. -/
theorem correctIsMonotone : Obligations.CorrectIsMonotone := by
  refine ⟨fun c h a b hab => correct_mono (h.passes _) (h.passes _) hab, fun c k hk hrange hfail => ?_⟩
  rw [← Nat.mul_succ, toNat_correct_node_start hrange (show k + 1 < 32 by omega),
    toNat_correct_node c (show k < 32 by omega) (by decide)]
  exact hfail

/-- Settles O10: a node of the identity table adds the offset to its base, and no sum exceeds 65535; this needs no bound on
LUT_SHIFT. -/
theorem identityTableIsIdentity : Obligations.IdentityTableIsIdentity := by
  intro c _ htable
  have hmargin (k : Nat) (hk : k < 31) : sat16 (c.lutSum k 2047) + 1 = c.lutBaseAt (k + 1) := by
    rw [NumParams.lutSum_identity 2047 (htable k (by omega)), (htable (k + 1) (by omega)).1, sat16_of_le (by omega)]
    omega
  refine ⟨fun x => BitVec.eq_of_toNat_eq ?_, hmargin, ?_⟩
  · have hx := x.isLt
    rw [toNat_correct, NumParams.lutSum_identity _ (htable _ (by omega)), Nat.div_add_mod, sat16_of_le (by omega)]
  · refine NumParams.passes_chkLutMono.mpr fun k hk => ?_
    have := hmargin k hk
    omega

/-- Settles O11: CHK_LUT_RANGE holds in an admitted configuration; input 0 is the first input of node 0. -/
theorem nodeValuesAreBases : Obligations.NodeValuesAreBases := by
  intro c h
  have hnode (k : Nat) (hk : k < 32) := toNat_correct_node_start (h.passes .chkLutRange) hk
  exact ⟨hnode, hnode 0 (by decide)⟩

end Sys2Proof.Machine

/-! ### Window addresses (20_memory.md R62, 30_encoding.md R75) -/

namespace Sys2Proof

/-- Word `k` of a window lies in that window. -/
theorem windowWord_and_0xF80 {base : Nat} (hbase : base % 128 = 0) (k : BitVec 5) :
    BitVec.ofNat 12 (base + 4 * k.toNat) &&& 0xF80 = BitVec.ofNat 12 base := by
  have hk := k.isLt
  rw [and_0xF80_eq_iff, BitVec.toNat_ofNat, BitVec.toNat_ofNat]
  omega

/-- A[6:2] of word `k` of a window is `k`. -/
theorem windowWord_index {base : Nat} (hbase : base % 128 = 0) (k : BitVec 5) :
    (BitVec.ofNat 12 (base + 4 * k.toNat)).extractLsb' 2 5 = k := by
  have hk := k.isLt
  apply BitVec.eq_of_toNat_eq
  rw [BitVec.extractLsb'_toNat, BitVec.toNat_ofNat, Nat.shiftRight_eq_div_pow]
  omega

/-- An address in a window is in no slot outside it. -/
theorem and_0xFFC_ne_of_window {a base r : Addr} (hwin : a &&& 0xF80 = base) (hr : r &&& 0xF80 ≠ base) :
    a &&& 0xFFC ≠ r := by
  rintro rfl
  exact hr (by rw [BitVec.and_assoc]; exact hwin)

/-- A read in the LUTNODE window decodes as LUTNODE_RD (R76). -/
theorem decode_lutnodeRd {a : Addr} (hwin : a &&& 0xF80 = 0x300) (d : Data) :
    decode (txnWord false a d) = .lutnodeRd (a.extractLsb' 2 5) := by
  -- `decode_read` asks for eleven single registers, then for the three other windows.
  rw [decode_read]
  iterate 11 rw [if_neg (and_0xFFC_ne_of_window hwin (by decide))]
  rw [hwin]
  iterate 3 rw [if_neg (by decide)]
  rw [if_pos rfl]

end Sys2Proof

namespace Sys2Proof.Machine

/-! ### The LUT probe (40_lut.md R94 to R97) -/

/-- `zext_32` keeps the number. -/
theorem zext32_eq_ofNat (v : Intensity) : zext32 v = BitVec.ofNat 32 v.toNat := (BitVec.ofNat_toNat 32 v).symm

/-- D[15:0] as a field of D. -/
theorem dataLow16_eq_extractLsb' (d : Data) : dataLow16 d = d.extractLsb' 0 16 :=
  BitVec.setWidth_eq_extractLsb' (by decide)

/-- The two halves of a LUTNODE word are the node's base and slope, when they are 16-bit values (R97). -/
theorem lutNodeWord_halves {c : Config} (h : c.passes .chkLutRange = true) (k : BitVec 5) :
    ((lutNodeWord c k).extractLsb' 0 16).toNat = c.lutBaseAt k.toNat ∧
      ((lutNodeWord c k).extractLsb' 16 16).toNat = c.lutSlopeAt k.toNat := by
  obtain ⟨hbase, hslope⟩ := NumParams.passes_chkLutRange.mp h k.toNat k.isLt
  rw [lutNodeWord, BitVec.extractLsb'_append_eq_right, BitVec.extractLsb'_append_eq_left, BitVec.toNat_ofNat,
    BitVec.toNat_ofNat]
  omega

/-- Settles O12: the slot of LUT_IN, and the one field LUTIN_WR writes. -/
theorem lutInWriteTakesLowHalf : Obligations.LutInWriteTakesLowHalf := by
  intro s d
  refine ⟨?_, ?_⟩
  · rw [decode_write, if_neg (by decide), if_neg (by decide), if_pos (by decide)]
  · rw [exec_lutinWr, dataLow16_eq_extractLsb']
    rfl

/-- Settles O13: each probe read decodes by its slot or window, and answers its value without another effect. -/
theorem lutProbeReads : Obligations.LutProbeReads := by
  intro s d
  refine ⟨⟨?_, ?_⟩, ⟨?_, ?_⟩, fun k => ⟨?_, lutNodeWord s.cfg k, rfl, fun h => lutNodeWord_halves h k⟩⟩
  · rw [decode_read, if_neg (by decide), if_neg (by decide), if_pos (by decide)]
  · rw [← zext32_eq_ofNat]
    rfl
  · rw [decode_read, if_neg (by decide), if_neg (by decide), if_neg (by decide), if_pos (by decide)]
  · rw [← zext32_eq_ofNat]
    rfl
  · rw [decode_lutnodeRd (windowWord_and_0xF80 (by decide) k), windowWord_index (by decide)]

end Sys2Proof.Machine

/-! ### The slice words of a frame (41_encoder.md R98 to R101) -/

namespace Sys2Proof.Machine

/-- A word is on the channel pins exactly when each bit set in it is a pin of a channel. -/
theorem onChannelPins_iff {c : Config} {w : Data} :
    OnChannelPins c w ↔
      ∀ j, w.getLsbD j = true → ∃ ch, ch < c.n ∧ (c.pinMaskAt ch).getLsbD j = true := by
  simp only [← NumParams.getLsbD_chanPins]
  constructor
  · intro h j hw
    have hj : (w &&& ~~~ c.chanPins).getLsbD j = false := by rw [h]; exact BitVec.getLsbD_zero
    have hlt := BitVec.lt_of_getLsbD hw
    simpa [hw, hlt] using hj
  · intro h
    refine BitVec.eq_of_getLsbD_eq fun j hlt => ?_
    cases hw : w.getLsbD j
    · simp [hw]
    · simp [h j hw]

/-- No pin of a slice word is a pin of no channel (R99). -/
theorem onChannelPins_sliceWord (c : Config) (ints : List Intensity) (i : Nat) :
    OnChannelPins c (sliceWord c ints i) := by
  refine onChannelPins_iff.mpr fun j hj => ?_
  obtain ⟨ch, hch, -, hpin⟩ := (getLsbD_sliceWord c ints i j).mp hj
  exact ⟨ch, hch, hpin⟩

/-- The channel's part of a slice word: its whole mask when the channel is on in the slice, and else no pin of it, because
no other channel has a pin of it (R99, CHK_PINS of R21). -/
theorem sliceWord_and_pinMaskAt {c : Config} (h : c.passes .chkPins = true) (ints : List Intensity) (i : Nat) {ch : Nat}
    (hch : ch < c.n) :
    sliceWord c ints i &&& c.pinMaskAt ch = if channelOn c (ints.getD ch 0) i then c.pinMaskAt ch else 0 := by
  refine BitVec.eq_of_getLsbD_eq fun j _ => ?_
  rw [BitVec.getLsbD_and]
  cases hpin : (c.pinMaskAt ch).getLsbD j
  · split <;> simp [hpin]
  · have hbit : (sliceWord c ints i).getLsbD j = true ↔ channelOn c (ints.getD ch 0) i = true := by
      rw [getLsbD_sliceWord]
      refine ⟨?_, fun hon => ⟨ch, hch, hon, hpin⟩⟩
      rintro ⟨other, hother, hon, hpin'⟩
      rwa [c.pin_unique h hch hother hpin hpin']
    split
    next hon => rw [hbit.mpr hon, hpin, Bool.true_and]
    next hoff => simp [hbit.not.mpr hoff]

/-- The truncated level `t = correct(x) >> (16 - R)` of a channel with staged intensity `x` (R101). -/
abbrev truncatedLevel (c : Config) (x : Intensity) : Nat := (correct c x).toNat / 2 ^ (16 - c.r)

/-- A channel is on in slice `i` when bit `i` of its truncated level is 1 (R100, R101). -/
theorem channelOn_eq_testBit (c : Config) (x : Intensity) (i : Nat) :
    channelOn c x i = (truncatedLevel c x).testBit i := by
  rw [channelOn, BitVec.getLsbD, Nat.testBit_div_two_pow, Nat.add_comm]

/-- A truncated level has R bits (R101). -/
theorem truncatedLevel_lt {c : Config} (hr : c.r ≤ 16) (x : Intensity) : truncatedLevel c x < 2 ^ c.r := by
  refine Nat.div_lt_of_lt_mul ?_
  rw [← pow_add, Nat.sub_add_cancel hr]
  exact (correct c x).isLt

/-- Settles O14: slot `i` of a frame is slice word `i`, which holds each channel's mask by the channel's level bit. -/
theorem sliceHoldsMaskIffLevelBit : Obligations.SliceHoldsMaskIffLevelBit := by
  refine fun c ints h => ⟨length_encodeFrame c ints, fun i w hi hw => ?_⟩
  rw [getElem?_encodeFrame, if_pos hi] at hw
  obtain rfl := Option.some.inj hw
  refine ⟨onChannelPins_sliceWord c ints i, fun ch hch => ⟨?_, ?_⟩⟩
  · exact truncatedLevel_lt (NumParams.passes_chkR.mp (h.passes .chkR)).2 _
  · rw [sliceWord_and_pinMaskAt (h.passes .chkPins) ints i hch, channelOn_eq_testBit]

end Sys2Proof.Machine

/-! ### The slot a transaction acts on (20_memory.md R59) -/

namespace Sys2Proof

/-- A field of A[11:2] does not see A[1:0] cleared. -/
theorem extractLsb'_and_0xFFC (a : Addr) {n : Nat} (hn : (0xFFC : Addr).extractLsb' 2 n = BitVec.allOnes n) :
    (a &&& 0xFFC).extractLsb' 2 n = a.extractLsb' 2 n := by
  rw [BitVec.extractLsb'_and, hn, BitVec.and_allOnes]

/-- A transaction decodes by its slot: A[1:0] is ignored (R59). -/
theorem decode_slot (we : Bool) (a : Addr) (d : Data) :
    decode (txnWord we (a &&& 0xFFC) d) = decode (txnWord we a d) := by
  have hslot : a &&& 0xFFC &&& 0xFFC = a &&& 0xFFC := by rw [BitVec.and_assoc]; rfl
  have hwin : a &&& 0xFFC &&& 0xF80 = a &&& 0xF80 := by rw [BitVec.and_assoc]; rfl
  have hindex := extractLsb'_and_0xFFC a (n := 5) (by decide)
  have hslice := extractLsb'_and_0xFFC a (n := 4) (by decide)
  have hbuffer : (a &&& 0xFFC).getLsbD 6 = a.getLsbD 6 := by
    rw [BitVec.getLsbD_and]
    exact Bool.and_true _
  cases we
  · rw [decode_read, decode_read, hslot, hwin, hindex, hslice, hbuffer]
  · rw [decode_write, decode_write, hslot, hwin, hindex]

/-- A read in the BUF0 and BUF1 windows decodes as BUF_RD (R76). -/
theorem decode_bufRd {a : Addr} (hwin : a &&& 0xF80 = 0x100) (d : Data) :
    decode (txnWord false a d) = .bufRd (a.getLsbD 6) (a.extractLsb' 2 4) := by
  -- `decode_read` asks for eleven single registers, then for the INTENSITY window.
  rw [decode_read]
  iterate 11 rw [if_neg (and_0xFFC_ne_of_window hwin (by decide))]
  rw [hwin, if_neg (by decide), if_pos rfl]

/-- The address of BUFb[i] lies in its window and carries `b` in A[6] and `i` in A[5:2] (10_state.md R52, R75). -/
theorem bufferWord_address : ∀ (b : Bool) (i : BitVec 4),
    let a : Addr := BitVec.ofNat 12 (0x100 + 0x40 * b.toNat + 4 * i.toNat)
    a &&& 0xF80 = 0x100 ∧ a.getLsbD 6 = b ∧ a.extractLsb' 2 4 = i := by decide

end Sys2Proof

namespace Sys2Proof.Machine

/-! ### The swap fields after each phase of a cycle (42_swap.md R108 to R117) -/

theorem State.pending_eq_true {s : State} : s.pending = true ↔ s.queued ≠ s.inUse := by simp [State.pending]

theorem State.pending_eq_false {s : State} : s.pending = false ↔ s.queued = s.inUse := by simp [State.pending]

@[simp] theorem State.setIntensity_buf (s : State) (c : Nat) (v : Intensity) (b : Bool) :
    (s.setIntensity c v).buf b = s.buf b := by
  unfold State.setIntensity
  split <;> rfl

/-- The sequencer writes no buffer (R116). -/
@[simp] theorem State.seqPhase_buf (s : State) (tick b : Bool) : (s.seqPhase tick).buf b = s.buf b := by
  rw [s.seqPhase_frame tick]
  rfl

/-- `Advance` reports a boundary in exactly the states `AtBoundary` describes (43_sweep.md R127). -/
theorem advance_boundary_iff (s : State) : (advance s.cfg s.slice s.dir).2.2 = true ↔ s.AtBoundary := by
  unfold advance State.AtBoundary
  cases s.cfg.sweepMode
  case uni =>
    dsimp only
    split
    next hlast => exact iff_of_true rfl hlast
    next hlast => exact iff_of_false Bool.false_ne_true hlast
  case bidi =>
    cases s.dir
    case up =>
      dsimp only
      split
      next hlt => exact iff_of_false Bool.false_ne_true (Nat.not_le.mpr hlt)
      next hle => exact iff_of_true rfl (Nat.not_lt.mp hle)
    case down =>
      dsimp only
      have hzero : s.slice = 0 ↔ s.slice.toNat = 0 := BitVec.toNat_inj.symm
      rw [hzero]
      split
      next hpos => exact iff_of_false Bool.false_ne_true (Nat.ne_of_gt hpos)
      next hnot => exact iff_of_true rfl (Nat.eq_zero_of_not_pos hnot)

/-- A boundary expiry adopts the buffer `queued` names (R117, 43_sweep.md R128). -/
theorem State.expiry_inUse_of_boundary {s : State} (h : s.AtBoundary) : s.expiry.inUse = s.queued := by
  rw [s.expiry_eq]
  exact if_pos ((advance_boundary_iff s).mpr h)

/-- After a sequencer phase the active buffer is as before or the one `queued` names (R117). -/
theorem State.seqPhase_inUse_cases (s : State) (tick : Bool) :
    (s.seqPhase tick).inUse = s.inUse ∨ (s.seqPhase tick).inUse = s.queued := by
  obtain ⟨-, -, -, h⟩ | ⟨-, -, -, h⟩ | ⟨-, h⟩ := s.seqPhase_cases tick
  · rw [h, s.expiry_eq]
    exact (ite_eq_or_eq _ _ _).symm
  · exact .inl (by rw [h, State.countTick_inUse])
  · exact .inl (by rw [h])

/-- The swap state and both buffers are the same in two states. -/
structure SameStore (s t : State) : Prop where
  inUse : t.inUse = s.inUse
  queued : t.queued = s.queued
  buf : ∀ b, t.buf b = s.buf b

/-- What a FLIP that acts does (R109 to R113): the free buffer takes the frame of the staged intensities, `queued` is set,
and nothing else changes. -/
structure FlipEffect (s t : State) : Prop where
  free : t.buf (!s.inUse) = encodeFrame s.cfg s.intensity
  active : t.buf s.inUse = s.buf s.inUse
  queued : t.queued = (!s.inUse) ∨ s.cfg.swapPolicy = .toggle ∧ t.queued = (!s.queued)
  frame : t = { s with buf0 := t.buf0, buf1 := t.buf1, queued := t.queued, ready := true, rdata := 0 }

theorem FlipEffect.inUse {s t : State} (h : FlipEffect s t) : t.inUse = s.inUse := by rw [h.frame]

theorem FlipEffect.ready {s t : State} (h : FlipEffect s t) : t.ready = true := by rw [h.frame]

/-- Encoding the frame and setting `queued` by the policy is the effect of a FLIP. -/
theorem flipEffect_encodeFree {s : State} {q : Bool}
    (hq : q = (!s.inUse) ∨ s.cfg.swapPolicy = .toggle ∧ q = (!s.queued)) :
    FlipEffect s (s.encodeFree.setQueued q).writeReply := by
  obtain ⟨hfree, hactive, hframe⟩ := s.encodeFree_spec
  refine ⟨hfree, hactive, hq, ?_⟩
  rw [hframe]
  rfl

/-- Everything a performed FLIP can have done: held (WAIT), absorbed (IGNORE), or acted (R110 to R113). -/
theorem exec_flip_cases {s t : State} (h : exec .flip s = .next t) :
    (s.cfg.swapPolicy = .wait ∧ s.pending = true ∧ t = s.holdReply) ∨
    (s.cfg.swapPolicy = .ignore ∧ s.pending = true ∧ t = s.writeReply) ∨
    ((s.cfg.swapPolicy = .ignore ∨ s.cfg.swapPolicy = .wait → s.pending = false) ∧ FlipEffect s t) := by
  change execFlip s = .next t at h
  obtain ⟨hp, hpend, hex⟩ | ⟨hp, hpend, hex⟩ | ⟨q, hex, hq, hacts⟩ := execFlip_cases s
  all_goals obtain rfl := Host.Outcome.next.inj (hex.symm.trans h)
  · exact .inl ⟨hp, hpend, rfl⟩
  · exact .inr (.inl ⟨hp, hpend, rfl⟩)
  · exact .inr (.inr ⟨hacts, flipEffect_encodeFree hq⟩)

/-- A FLIP that the policy neither holds nor absorbs acts (R110 to R113). -/
theorem FlipEffect.of_exec {s t : State} (h : exec .flip s = .next t)
    (hacts : s.cfg.swapPolicy = .ignore ∨ s.cfg.swapPolicy = .wait → s.pending = false) : FlipEffect s t := by
  obtain ⟨hp, hpend, -⟩ | ⟨hp, hpend, -⟩ | ⟨-, heff⟩ := exec_flip_cases h
  · simp [hacts (.inr hp)] at hpend
  · simp [hacts (.inl hp)] at hpend
  · exact heff

/-- No transaction but FLIP touches the swap state or a buffer (R116). -/
theorem exec_sameStore {i : Instr} {s t : State} (hi : i ≠ .flip) (h : exec i s = .next t) : SameStore s t := by
  cases hread : isRead i
  case true =>
    obtain ⟨v, hv⟩ := exec_of_isRead hread s
    obtain rfl := Host.Outcome.next.inj (hv.symm.trans h)
    exact ⟨rfl, rfl, fun _ => rfl⟩
  case false =>
    cases i
    case flip => exact absurd rfl hi
    case ctrlWr d =>
      cases hd : d.getLsbD 0
      · obtain rfl := Host.Outcome.next.inj ((exec_ctrlWr_stop hd s).symm.trans h)
        exact ⟨rfl, rfl, fun _ => rfl⟩
      · obtain rfl := Host.Outcome.next.inj ((exec_ctrlWr_start hd s).symm.trans h)
        exact ⟨rfl, rfl, fun _ => rfl⟩
    case intWr c d =>
      obtain rfl := Host.Outcome.next.inj ((exec_intWr c d s).symm.trans h)
      exact ⟨by simp, by simp, by simp⟩
    case cmdNop | lutinWr | rsvWr =>
      obtain rfl := Host.Outcome.next.inj h
      exact ⟨rfl, rfl, fun _ => rfl⟩
    all_goals cases hread

/-- What a transaction can do to the swap state and the buffers: nothing, or the effect of a FLIP that acts (R116). -/
theorem exec_store_cases {i : Instr} {s t : State} (h : exec i s = .next t) :
    SameStore s t ∨ i = .flip ∧
      (s.cfg.swapPolicy = .ignore ∨ s.cfg.swapPolicy = .wait → s.pending = false) ∧ FlipEffect s t := by
  by_cases hi : i = .flip
  · subst hi
    obtain ⟨-, -, rfl⟩ | ⟨-, -, rfl⟩ | hacts := exec_flip_cases h
    · exact .inl ⟨rfl, rfl, fun _ => rfl⟩
    · exact .inl ⟨rfl, rfl, fun _ => rfl⟩
    · exact .inr ⟨rfl, hacts⟩
  · exact .inl (exec_sameStore hi h)

/-- No transaction moves `in_use` or writes the active buffer (R116). -/
theorem exec_keeps_active {i : Instr} {s t : State} (h : exec i s = .next t) :
    t.inUse = s.inUse ∧ t.buf s.inUse = s.buf s.inUse := by
  obtain hsame | ⟨-, -, heff⟩ := exec_store_cases h
  · exact ⟨hsame.inUse, hsame.buf _⟩
  · exact ⟨heff.inUse, heff.active⟩

/-! ### The swap fields over a step without reset (20_memory.md R64, R65) -/

/-- σ1 of the next clock edge: the state after its sequencer phase, on which its transaction acts (R64). -/
abbrev State.afterSeqPhase (s : State) : State := s.takeInput.seqPhase s.nextInput.tickEn

/-- With a boundary expiry σ1 has adopted the buffer `queued` names (R117). -/
theorem State.afterSeqPhase_inUse_of_boundary {s : State} (hexp : s.ExpiryEdge) (hbound : s.AtBoundary) :
    s.afterSeqPhase.inUse = s.queued := by
  obtain ⟨-, hen, htick, hcnt⟩ := hexp
  have hphase : s.afterSeqPhase = s.takeInput.expiry := by
    simp [State.afterSeqPhase, State.seqPhase, hen, htick, hcnt]
  rw [hphase]
  exact State.expiry_inUse_of_boundary (s := s.takeInput) hbound

/-- The transaction of a cycle is `exec` of its decoded word, with the address as presented (R59, R65). -/
theorem step_txn {s : State} (hcfg : s.cfg.Admitted) (hrst : s.nextInput.rst = false) (hreq : s.nextInput.req = true) :
    step s = exec (decode (txnWord s.nextInput.we s.nextInput.addr s.nextInput.wdata)) s.afterSeqPhase := by
  rw [step_of_admitted hcfg, State.clockEdge_txn hrst hreq, State.busPhase, decode_slot]

/-- A FLIP presented without reset is performed on σ1 (R65, R108). -/
theorem step_presentsFlip {s : State} (hcfg : s.cfg.Admitted) (hrst : s.nextInput.rst = false)
    (hflip : s.nextInput.presentsFlip) : step s = exec .flip s.afterSeqPhase := by
  rw [step_txn hcfg hrst hflip.1, hflip.2]

/-- A step without reset only answers on σ1, or performs the transaction presented (R64). -/
theorem step_cases {s t : State} (h : step s = .next t) (hrst : s.nextInput.rst = false) :
    t = s.afterSeqPhase.writeReply ∨ s.nextInput.req = true ∧
      exec (decode (txnWord s.nextInput.we s.nextInput.addr s.nextInput.wdata)) s.afterSeqPhase = .next t := by
  obtain ⟨hcfg, hedge⟩ := step_next h
  cases hreq : s.nextInput.req
  · exact .inl (Host.Outcome.next.inj (hedge.symm.trans (State.clockEdge_idle hrst hreq)))
  · exact .inr ⟨rfl, (step_txn hcfg hrst hreq).symm.trans h⟩

/-- After a step without reset the active buffer is that of σ1, and its words are those before the step ((I8) of
10_state.md R38). -/
theorem step_keeps_active {s t : State} (h : step s = .next t) (hrst : s.nextInput.rst = false) :
    t.inUse = s.afterSeqPhase.inUse ∧ KeepsActiveBuffer s t := by
  have hactive : t.inUse = s.afterSeqPhase.inUse ∧
      t.buf s.afterSeqPhase.inUse = s.afterSeqPhase.buf s.afterSeqPhase.inUse := by
    obtain rfl | ⟨-, hexec⟩ := step_cases h hrst
    · exact ⟨rfl, rfl⟩
    · exact exec_keeps_active hexec
  obtain ⟨hinUse, hbuf⟩ := hactive
  refine ⟨hinUse, ?_⟩
  rw [KeepsActiveBuffer, hinUse, hbuf, State.seqPhase_buf, State.takeInput_buf]

/-- A step without reset and without a FLIP that acts leaves the swap state and the buffers of σ1. -/
theorem step_sameStore {s t : State} (h : step s = .next t) (hrst : s.nextInput.rst = false) (hflip : ¬ s.FlipActs) :
    SameStore s.afterSeqPhase t := by
  obtain rfl | ⟨hreq, hexec⟩ := step_cases h hrst
  · exact ⟨rfl, rfl, fun _ => rfl⟩
  · obtain hsame | ⟨hdec, hacts, -⟩ := exec_store_cases hexec
    · exact hsame
    · rw [State.seqPhase_cfg, State.takeInput_cfg] at hacts
      exact absurd ⟨hrst, ⟨hreq, hdec⟩, hacts⟩ hflip

/-- A FLIP that acts has its effect on σ1. -/
theorem step_flipEffect {s t : State} (hflip : s.FlipActs) (h : step s = .next t) : FlipEffect s.afterSeqPhase t := by
  obtain ⟨hrst, hpresents, hacts⟩ := hflip
  refine .of_exec ((step_presentsFlip (step_next h).1 hrst hpresents).symm.trans h) ?_
  rwa [State.seqPhase_cfg, State.takeInput_cfg]

/-! ### A requested frame over a run (42_swap.md R122) -/

/-- What a run without reset and without a FLIP that acts keeps: the buffers and `queued`; `in_use` may come to name the
buffer that `queued` names. -/
structure StoreHeld (s t : State) : Prop where
  queued : t.queued = s.queued
  buf : ∀ b, t.buf b = s.buf b
  inUse : t.inUse = s.inUse ∨ t.inUse = s.queued

theorem StoreHeld.refl (s : State) : StoreHeld s s := ⟨rfl, fun _ => rfl, .inl rfl⟩

theorem StoreHeld.trans {s t u : State} (hst : StoreHeld s t) (htu : StoreHeld t u) : StoreHeld s u where
  queued := htu.queued.trans hst.queued
  buf b := (htu.buf b).trans (hst.buf b)
  inUse := by
    obtain h | h := htu.inUse
    · rw [h]
      exact hst.inUse
    · exact .inr (h.trans hst.queued)

/-- A step without reset and without a FLIP that acts: `in_use` moves only by the commit of its sequencer phase. -/
theorem step_storeHeld {s t : State} (h : step s = .next t) (hrst : s.nextInput.rst = false) (hflip : ¬ s.FlipActs) :
    StoreHeld s t := by
  have hsame := step_sameStore h hrst hflip
  refine ⟨by simp [hsame.queued], fun b => by simp [hsame.buf], ?_⟩
  rw [hsame.inUse]
  exact s.takeInput.seqPhase_inUse_cases _

/-- The same over a run, by induction on its steps. -/
theorem steps_storeHeld {n : Nat} {s u : State}
    (hquiet : ∀ k, k < n → ∀ v, steps k s = some v → v.nextInput.rst = false ∧ ¬ v.FlipActs)
    (h : steps n s = some u) : StoreHeld s u := by
  induction n generalizing s with
  | zero =>
    obtain rfl := Option.some.inj h
    exact .refl s
  | succ n ih =>
    obtain ⟨t, hst, htu⟩ := steps_succ h
    obtain ⟨hrst, hflip⟩ := hquiet 0 (Nat.succ_pos n) s (steps_zero s)
    refine (step_storeHeld hst hrst hflip).trans (ih (fun k hk v hv => ?_) htu)
    exact hquiet (k + 1) (Nat.succ_lt_succ hk) v ((steps_succ_of_next hst).trans hv)

/-! ### The statements on the swap control -/

/-- Settles O26: the FLIP puts the frame into the buffer `queued` names (`step_flipEffect`), the run keeps it there
(`steps_storeHeld`), and the boundary expiry adopts that buffer before its cycle's transaction, which cannot write it. -/
theorem swapIsAtomic : Obligations.SwapIsAtomic := by
  intro s t u n hflip hst hreq _ hquiet htu
  have heff := step_flipEffect hflip hst
  have hheld := steps_storeHeld hquiet htu
  have hframe : u.buf u.queued = encodeFrame s.cfg s.intensity := by
    rw [hheld.queued, hheld.buf, hreq, heff.inUse, heff.free]
    simp
  refine ⟨hheld.queued, hframe, hheld.queued ▸ hheld.inUse, fun v hexp hbound huv => ?_⟩
  obtain ⟨hinUse, hkeeps⟩ := step_keeps_active huv hexp.1
  rw [State.afterSeqPhase_inUse_of_boundary hexp hbound] at hinUse
  refine ⟨hinUse, ?_, fun hquietEdge => ?_⟩
  · rw [hkeeps, hinUse, hframe]
  · rw [hinUse, (step_storeHeld huv hexp.1 hquietEdge).queued]

/-- Settles O23: transactions by `exec_keeps_active`, the sequencer phase by its frame, the step by its two phases; a reset
cycle clears both buffers (10_state.md R55). -/
theorem activeBufferNeverWritten : Obligations.ActiveBufferNeverWritten := by
  refine ⟨fun i s t => exec_keeps_active, State.seqPhase_buf, fun s t h => ⟨fun hrst => ?_, fun hrst => ?_⟩⟩
  · exact (step_keeps_active h hrst).2
  · obtain rfl := Host.Outcome.next.inj ((State.clockEdge_reset hrst).symm.trans (step_next h).2)
    exact ⟨rfl, rfl⟩

/-- No FLIP moves the sweep, the timer or the port (R123). -/
theorem exec_flip_keeps_sweep {s t : State} (h : exec .flip s = .next t) :
    t.pwmOut = s.pwmOut ∧ t.slice = s.slice ∧ t.dir = s.dir ∧ t.cnt = s.cnt ∧ t.matchReg = s.matchReg := by
  obtain ⟨-, -, rfl⟩ | ⟨-, -, rfl⟩ | ⟨-, heff⟩ := exec_flip_cases h
  · exact ⟨rfl, rfl, rfl, rfl, rfl⟩
  · exact ⟨rfl, rfl, rfl, rfl, rfl⟩
  · rw [heff.frame]
    exact ⟨rfl, rfl, rfl, rfl, rfl⟩

/-- Settles O25: after the commit σ1 has no swap pending, so under every policy the FLIP acts, and `!queued`, which TOGGLE
sets, is `!in_use`. -/
theorem flipInBoundaryCycle : Obligations.FlipInBoundaryCycle := by
  refine ⟨fun s hcfg hexp hbound hflip => ?_, fun s t => exec_flip_keeps_sweep⟩
  have hinUse := State.afterSeqPhase_inUse_of_boundary hexp hbound
  have hqueued : s.afterSeqPhase.queued = s.afterSeqPhase.inUse := by simp [hinUse]
  have hstep := step_presentsFlip hcfg hexp.1 hflip
  obtain ⟨t, hexec⟩ := exec_next .flip s.afterSeqPhase
  have heff : FlipEffect s.afterSeqPhase t := .of_exec hexec fun _ => State.pending_eq_false.mpr hqueued
  have hst : step s = .next t := hstep.trans hexec
  refine ⟨t, hst, heff.ready, heff.inUse.trans hinUse, ?_, ?_, (step_keeps_active hst hexp.1).2⟩
  · rw [heff.inUse]
    obtain h | ⟨-, h⟩ := heff.queued
    · exact h
    · rw [h, hqueued]
  · rw [heff.inUse, heff.free]
    simp

/-- Settles O18: under IGNORE a FLIP is absorbed exactly when a swap is pending, and is never held. -/
theorem flipUnderIgnore : Obligations.FlipUnderIgnore := by
  intro s hp
  obtain ⟨t, h⟩ := exec_next .flip s
  refine ⟨t, h, ?_⟩
  obtain ⟨hp', -, -⟩ | ⟨-, hpend, rfl⟩ | ⟨hacts, heff⟩ := exec_flip_cases h
  · simp [hp] at hp'
  · exact ⟨fun hq => absurd hq (State.pending_eq_true.mp hpend), fun _ => rfl⟩
  · have hq : t.queued = (!s.inUse) := heff.queued.resolve_right fun ⟨htoggle, _⟩ => by simp [hp] at htoggle
    have hpend : s.queued = s.inUse := State.pending_eq_false.mp (hacts (.inl hp))
    exact ⟨fun _ => ⟨heff.free, heff.active, hq, heff.frame⟩, fun hne => absurd hpend hne⟩

/-- Settles O21: the slot of CMD, by D[0]. -/
theorem commandWordsFlipOrNothing : Obligations.CommandWordsFlipOrNothing := by
  intro s d
  have hdecode : decode (txnWord true 0x008 d) = if d.getLsbD 0 then .flip else .cmdNop d := by
    rw [decode_write, if_neg (by decide), if_pos (by decide)]
  exact ⟨fun hd => by rw [hdecode, if_pos hd], fun hd => by rw [hdecode, hd, if_neg Bool.false_ne_true], rfl⟩

/-- STATUS bit by bit (10_state.md R40). -/
theorem getLsbD_statusWord (s : State) :
    s.statusWord.getLsbD 0 = s.pending ∧ s.statusWord.getLsbD 1 = s.inUse ∧ s.statusWord.getLsbD 2 = s.queued ∧
      s.statusWord.getLsbD 3 = s.en ∧ ∀ j, 4 ≤ j → s.statusWord.getLsbD j = false := by
  refine ⟨?_, ?_, ?_, ?_, fun j hj => ?_⟩
  case refine_5 => rw [State.statusWord, BitVec.getLsbD_setWidth, BitVec.getLsbD_of_ge _ _ hj, Bool.and_false]
  all_goals
    simp only [State.statusWord, BitVec.getLsbD_setWidth, BitVec.getLsbD_append]
    simp

/-- BUF_RD answers the slice word of the buffer (R120). -/
theorem exec_bufRd (b : Bool) (i : BitVec 4) (s : State) :
    exec (.bufRd b i) s = .next (s.readReply (s.bufWord b i)) := rfl

/-- Settles O22: STATUS bit by bit, and the slice store by the address of BUFb[i], below R and from R on. -/
theorem statusAndBufferReads : Obligations.StatusAndBufferReads := by
  intro s d
  refine ⟨⟨?_, s.statusWord, rfl, getLsbD_statusWord s⟩, fun b i => ⟨?_, fun hi => ?_, fun hi => ?_⟩⟩
  · rw [decode_read, if_neg (by decide), if_pos (by decide)]
  · obtain ⟨hwin, hbuffer, hslice⟩ := bufferWord_address b i
    rw [decode_bufRd hwin, hbuffer, hslice]
  · rw [exec_bufRd, State.bufWord, if_pos hi]
    rfl
  · rw [exec_bufRd, State.bufWord, if_neg (Nat.not_lt.mpr hi)]
    rfl

end Sys2Proof.Machine

/-! ### What a cycle keeps of the sweep (43_sweep.md R125, R137; 10_state.md R28) -/

namespace Sys2Proof

/-- A word with W = 0 decodes to a transaction that reads (30_encoding.md R76). -/
theorem isRead_decode_read (a : Addr) (d : Data) : Machine.isRead (decode (txnWord false a d)) = true := by
  simp only [decode_read, apply_ite Machine.isRead]
  simp only [Machine.isRead, ite_self]

/-- The data operand of a CTRL_WR is D (R83). -/
theorem ctrlWr_data {we : Bool} {a : Addr} {d e : Data} (h : decode (txnWord we a d) = .ctrlWr e) : e = d := by
  cases we
  · have hread := isRead_decode_read a d
    rw [h] at hread
    cases hread
  · rw [decode_write] at h
    split_ifs at h
    exact (Instr.ctrlWr.inj h).symm

end Sys2Proof

namespace Sys2Proof.Machine

/-- The parameters, the inputs to come and the fields of the sequencer are the same in two states. -/
structure SameSweep (s t : State) : Prop where
  cfg : t.cfg = s.cfg
  inputs : t.inputs = s.inputs
  en : t.en = s.en
  slice : t.slice = s.slice
  dir : t.dir = s.dir
  cnt : t.cnt = s.cnt
  matchReg : t.matchReg = s.matchReg
  pwmOut : t.pwmOut = s.pwmOut

/-- A FLIP leaves the sequencer alone (R123). -/
theorem exec_flip_sameSweep {s t : State} (h : exec .flip s = .next t) : SameSweep s t := by
  obtain ⟨-, -, rfl⟩ | ⟨-, -, rfl⟩ | ⟨-, heff⟩ := exec_flip_cases h
  · exact ⟨rfl, rfl, rfl, rfl, rfl, rfl, rfl, rfl⟩
  · exact ⟨rfl, rfl, rfl, rfl, rfl, rfl, rfl, rfl⟩
  · rw [heff.frame]
    exact ⟨rfl, rfl, rfl, rfl, rfl, rfl, rfl, rfl⟩

/-- No transaction but CTRL_WR touches the sequencer (10_state.md R28). -/
theorem exec_sameSweep {i : Instr} {s t : State} (hi : ∀ d, i ≠ .ctrlWr d) (h : exec i s = .next t) :
    SameSweep s t := by
  cases i
  case ctrlWr d => exact absurd rfl (hi d)
  case flip => exact exec_flip_sameSweep h
  case intWr c d =>
    obtain rfl := Host.Outcome.next.inj ((exec_intWr c d s).symm.trans h)
    exact ⟨by simp, by simp, by simp, by simp, by simp, by simp, by simp, by simp⟩
  all_goals
    obtain rfl := Host.Outcome.next.inj h
    exact ⟨rfl, rfl, rfl, rfl, rfl, rfl, rfl, rfl⟩

/-- With the sequencer running, a transaction that is no STOP leaves it alone: a START changes nothing (R137). -/
theorem exec_sameSweep_of_en {i : Instr} {s t : State} (hen : s.en = true)
    (hi : ∀ d, i = .ctrlWr d → d.getLsbD 0 = true) (h : exec i s = .next t) : SameSweep s t := by
  by_cases hctrl : ∃ d, i = .ctrlWr d
  · obtain ⟨d, rfl⟩ := hctrl
    obtain rfl := Host.Outcome.next.inj ((exec_ctrlWr_start (hi d rfl) s).symm.trans h)
    rw [State.start_of_en hen]
    exact ⟨rfl, rfl, rfl, rfl, rfl, rfl, rfl, rfl⟩
  · exact exec_sameSweep (fun d hd => hctrl ⟨d, hd⟩) h

/-- With the sequencer running, a step without reset and without a stop leaves the sequencer as its phase left it. -/
theorem step_sameSweep {s t : State} (hen : s.en = true) (hrst : s.nextInput.rst = false)
    (hstop : ¬ s.nextInput.presentsStop) (h : step s = .next t) : SameSweep s.afterSeqPhase t := by
  obtain rfl | ⟨hreq, hexec⟩ := step_cases h hrst
  · exact ⟨rfl, rfl, rfl, rfl, rfl, rfl, rfl, rfl⟩
  · refine exec_sameSweep_of_en (by simpa using hen) (fun d hd => ?_) hexec
    obtain rfl := ctrlWr_data hd
    by_contra hzero
    exact hstop ⟨hreq, hd, by simpa using hzero⟩

/-- A step of an admitted configuration goes on. -/
theorem step_goes_on {s : State} (hcfg : s.cfg.Admitted) : ∃ t, step s = .next t := by
  rw [step_of_admitted hcfg]
  unfold State.clockEdge
  split
  · exact ⟨_, rfl⟩
  · dsimp only
    split
    · exact exec_next _ _
    · exact ⟨_, rfl⟩

/-! ### The sequencer phase of the next edge, by what the edge is (R125) -/

/-- At an expiry edge the sequencer phase is the expiry. -/
theorem State.afterSeqPhase_of_expiry {s : State} (h : s.ExpiryEdge) : s.afterSeqPhase = s.takeInput.expiry := by
  obtain ⟨-, hen, htick, hcnt⟩ := h
  simp [State.afterSeqPhase, State.seqPhase, hen, htick, hcnt]

/-- A tick of a running sequencer with `cnt` not at `match` counts. -/
theorem State.afterSeqPhase_of_count {s : State} (hen : s.en = true) (htick : s.nextInput.tickEn = true)
    (hcnt : s.cnt ≠ s.matchReg) : s.afterSeqPhase = s.takeInput.countTick := by
  simp [State.afterSeqPhase, State.seqPhase, hen, htick, hcnt]

/-- Without a tick the sequencer phase does nothing. -/
theorem State.afterSeqPhase_of_no_tick {s : State} (htick : s.nextInput.tickEn = false) :
    s.afterSeqPhase = s.takeInput := by
  simp [State.afterSeqPhase, State.seqPhase, htick]

/-- With the sequencer stopped its phase does nothing. -/
theorem State.afterSeqPhase_of_stopped {s : State} (hen : s.en = false) : s.afterSeqPhase = s.takeInput := by
  simp [State.afterSeqPhase, State.seqPhase, hen]

/-- Expiry away from a boundary keeps the active buffer (R128). -/
theorem State.expiry_inUse_of_not_boundary {s : State} (h : ¬ s.AtBoundary) : s.expiry.inUse = s.inUse := by
  rw [s.expiry_eq]
  exact if_neg ((advance_boundary_iff s).not.mpr h)

/-- Away from a boundary expiry the sequencer phase of an edge without reset keeps the active buffer (R117). -/
theorem State.afterSeqPhase_inUse_of_not_commit {s : State} (hrst : s.nextInput.rst = false)
    (h : ¬ (s.ExpiryEdge ∧ s.AtBoundary)) : s.afterSeqPhase.inUse = s.inUse := by
  obtain ⟨hen, htick, hcnt, hphase⟩ | ⟨-, -, -, hphase⟩ | ⟨-, hphase⟩ := s.takeInput.seqPhase_cases s.nextInput.tickEn
  · rw [State.afterSeqPhase, hphase]
    exact State.expiry_inUse_of_not_boundary (s := s.takeInput) fun hbound => h ⟨⟨hrst, hen, htick, hcnt⟩, hbound⟩
  · rw [State.afterSeqPhase, hphase, State.countTick_inUse, State.takeInput_inUse]
  · rw [State.afterSeqPhase, hphase, State.takeInput_inUse]

/-- Settles O24: the bus phase never moves `in_use`, and the sequencer phase does only by the commit. -/
theorem commitExactlyAtBoundaryExpiry : Obligations.CommitExactlyAtBoundaryExpiry := by
  intro s t h hrst
  rw [(step_keeps_active h hrst).1]
  exact ⟨fun ⟨hexp, hbound⟩ => State.afterSeqPhase_inUse_of_boundary hexp hbound,
    State.afterSeqPhase_inUse_of_not_commit hrst⟩

/-! ### Periods and the match register (R124) -/

/-- Settles O29: the bounds are those of `Laws/Params`; with PERIOD_FLOOR at most M the shifted quantum is the maximum. -/
theorem periodsAreGeometric : Obligations.PeriodsAreGeometric := by
  intro c i hcfg hi
  refine ⟨c.period_eq i, c.period_pos i, c.period_le_pmax (by omega), hcfg.pmax_le.1, fun hfloor => ?_⟩
  rw [c.period_eq]
  exact max_eq_left (hfloor.trans (Nat.le_mul_of_pos_right _ (Nat.two_pow_pos i)))

/-- The match register holds the period of a slice below R whole, less one (R126). -/
theorem toNat_toCntWidth_period {c : Config} (hcfg : c.Admitted) {i : Nat} (hi : i ≤ c.r - 1) :
    (toCntWidth c (c.period i - 1)).toNat = c.period i - 1 := by
  obtain ⟨hpmax, hwidth⟩ := hcfg.pmax_le
  have hle := c.period_le_pmax hi
  have hpos := c.period_pos i
  exact toCntWidth_toNat c _ hwidth (by omega)

/-- `cnt` after a counting tick below a match register of CNT_WIDTH bits (R125). -/
theorem State.countTick_cnt_toNat {s : State} (hcfg : s.cfg.Admitted) (hmatch : s.matchReg.toNat < 2 ^ s.cfg.cntWidth)
    (hcnt : s.cnt.toNat < s.matchReg.toNat) : s.countTick.cnt.toNat = s.cnt.toNat + 1 :=
  toCntWidth_toNat s.cfg _ hcfg.pmax_le.2 (by omega)

/-! ### Counting the ticks between two expiries (R132) -/

/-- The ticks of a list of inputs, the first cycle apart. -/
theorem tickCount_succ (m : Nat) {l : List CycleInput} (h : l ≠ []) :
    tickCount (m + 1) l = (if (l.headD idleCycle).tickEn then 1 else 0) + tickCount m l.tail := by
  cases l with
  | nil => exact absurd rfl h
  | cons inp rest => simp [tickCount, List.countP_cons, Nat.add_comm]

/-- `t` is `s` after `k` ticks that only counted: the sequencer runs on the same slice, period and port value. -/
structure Counted (k : Nat) (s t : State) : Prop where
  cfg : t.cfg = s.cfg
  en : t.en = true
  slice : t.slice = s.slice
  matchReg : t.matchReg = s.matchReg
  pwmOut : t.pwmOut = s.pwmOut
  cnt : t.cnt.toNat = s.cnt.toNat + k

theorem Counted.trans {j k : Nat} {s t u : State} (hst : Counted j s t) (htu : Counted k t u) :
    Counted (j + k) s u where
  cfg := htu.cfg.trans hst.cfg
  en := htu.en
  slice := htu.slice.trans hst.slice
  matchReg := htu.matchReg.trans hst.matchReg
  pwmOut := htu.pwmOut.trans hst.pwmOut
  cnt := by rw [htu.cnt, hst.cnt, Nat.add_assoc]

/-- A step of a running sequencer, without reset and without a stop, counts its tick when `cnt` is below `match`, and
does nothing to the sequencer when it has no tick. -/
theorem step_counted {s t : State} (hen : s.en = true) (hmatch : s.matchReg.toNat < 2 ^ s.cfg.cntWidth)
    (hrst : s.nextInput.rst = false) (hstop : ¬ s.nextInput.presentsStop)
    (hcnt : s.nextInput.tickEn = true → s.cnt.toNat < s.matchReg.toNat) (h : step s = .next t) :
    Counted (if s.nextInput.tickEn then 1 else 0) s t ∧ t.inputs = s.inputs.tail := by
  have hsame := step_sameSweep hen hrst hstop h
  cases htick : s.nextInput.tickEn
  case false =>
    rw [State.afterSeqPhase_of_no_tick htick] at hsame
    exact ⟨⟨hsame.cfg, hsame.en.trans hen, hsame.slice, hsame.matchReg, hsame.pwmOut, congrArg _ hsame.cnt⟩,
      hsame.inputs⟩
  case true =>
    have hlt := hcnt htick
    rw [State.afterSeqPhase_of_count hen htick fun heq => by simp [heq] at hlt] at hsame
    refine ⟨⟨hsame.cfg, hsame.en.trans hen, hsame.slice, hsame.matchReg, hsame.pwmOut, ?_⟩, hsame.inputs⟩
    rw [hsame.cnt]
    exact State.countTick_cnt_toNat (s := s.takeInput) (step_next h).1 hmatch hlt

/-- A run without reset, without a stop and with no more ticks than `match` allows only counts its ticks: by induction on
its steps. -/
theorem steps_counted {m : Nat} {s u : State} (hen : s.en = true) (hmatch : s.matchReg.toNat < 2 ^ s.cfg.cntWidth)
    (hlen : m ≤ s.inputs.length) (hquiet : ∀ inp ∈ s.inputs.take m, inp.rst = false ∧ ¬ inp.presentsStop)
    (hcnt : s.cnt.toNat + tickCount m s.inputs ≤ s.matchReg.toNat) (h : steps m s = some u) :
    Counted (tickCount m s.inputs) s u := by
  induction m generalizing s with
  | zero =>
    obtain rfl := Option.some.inj h
    exact ⟨rfl, hen, rfl, rfl, rfl, rfl⟩
  | succ m ih =>
    obtain ⟨t, hst, htu⟩ := steps_succ h
    have hne : s.inputs ≠ [] := List.ne_nil_of_length_pos (by omega)
    have htake : s.inputs.take (m + 1) = s.nextInput :: s.inputs.tail.take m := by
      cases hl : s.inputs with
      | nil => exact absurd hl hne
      | cons inp rest => simp [State.nextInput, hl]
    rw [htake, List.forall_mem_cons] at hquiet
    obtain ⟨⟨hrst, hstop⟩, hrest⟩ := hquiet
    rw [tickCount_succ m hne] at hcnt ⊢
    change s.cnt.toNat + ((if s.nextInput.tickEn then 1 else 0) + _) ≤ _ at hcnt
    obtain ⟨hfirst, hinputs⟩ := step_counted hen hmatch hrst hstop (fun htick => by rw [if_pos htick] at hcnt; omega) hst
    rw [← hinputs] at hrest hcnt ⊢
    refine hfirst.trans (ih hfirst.en ?_ ?_ hrest ?_ htu)
    · rwa [hfirst.matchReg, hfirst.cfg]
    · rw [hinputs, List.length_tail]
      omega
    · rw [hfirst.cnt, hfirst.matchReg]
      omega

/-- Settles O35: the expiry loads `match` with the period less one and clears `cnt`; from there `steps_counted` counts. -/
theorem sliceStaysForItsPeriod : Obligations.SliceStaysForItsPeriod := by
  intro s t u m hinv hexp hstop hst hlen hquiet hticks htu
  obtain ⟨-, ⟨hslice, -, -⟩, -⟩ := hinv
  obtain ⟨hcfg, -⟩ := step_next hst
  have hpos := s.cfg.period_pos s.slice.toNat
  have hsame := step_sameSweep hexp.2.1 hexp.1 hstop hst
  rw [State.afterSeqPhase_of_expiry hexp, State.expiry_eq] at hsame
  have hen : t.en = true := hsame.en.trans hexp.2.1
  have hcnt : t.cnt.toNat = 0 := congrArg BitVec.toNat hsame.cnt
  have hmatch : t.matchReg.toNat = s.cfg.period s.slice.toNat - 1 :=
    (congrArg BitVec.toNat hsame.matchReg).trans (toNat_toCntWidth_period hcfg hslice)
  have hcfgT : t.cfg = s.cfg := hsame.cfg
  have hfits : t.matchReg.toNat < 2 ^ t.cfg.cntWidth := by
    have := s.cfg.period_le_pmax hslice
    have := hcfg.pmax_le.1
    rw [hmatch, hcfgT]
    omega
  have hcounted := steps_counted hen hfits hlen hquiet (by omega) htu
  have hcntU : u.cnt.toNat = tickCount m t.inputs := by rw [hcounted.cnt, hcnt, Nat.zero_add]
  refine ⟨hcounted.pwmOut.trans hsame.pwmOut, hcounted.en, hcounted.slice, hcntU, ?_⟩
  rw [← BitVec.toNat_inj, hcntU, hcounted.matchReg, hmatch]
  omega

/-- A run and one more step. -/
theorem steps_succ_last {n : Nat} {s t u : State} (h : steps n s = some t) (hu : step t = .next u) :
    steps (n + 1) s = some u := by
  induction n generalizing s with
  | zero =>
    obtain rfl := Option.some.inj h
    exact steps_succ_of_next hu
  | succ n ih =>
    obtain ⟨r, hr, hrest⟩ := steps_succ h
    exact (steps_succ_of_next hr).trans (ih hrest)

/-! ### From a start to the first expiry (R136) -/

/-- Each input of a list is that of a cycle without reset, without a tick and without a stop. -/
abbrev QuietCycles (l : List CycleInput) : Prop :=
  ∀ inp ∈ l, inp.rst = false ∧ inp.tickEn = false ∧ ¬ inp.presentsStop

/-- `t` is the stopped state `s` started and not ticked since: the sequencer is at its start position, the port is
inactive, and the active buffer is that of `s`. -/
structure AwaitsFirstTick (s t : State) : Prop where
  cfg : t.cfg = s.cfg
  en : t.en = true
  slice : t.slice = 0
  dir : t.dir = .up
  cnt : t.cnt = 0
  matchReg : t.matchReg = 0
  pwmOut : t.pwmOut = s.cfg.inactive
  inUse : t.inUse = s.inUse
  active : t.buf s.inUse = s.buf s.inUse

/-- The word of a slice of the active buffer. -/
theorem AwaitsFirstTick.bufAt {s t : State} (h : AwaitsFirstTick s t) (i : Nat) :
    t.bufAt t.inUse i = s.bufAt s.inUse i := by
  rw [State.bufAt, h.inUse, h.active, State.bufAt]

/-- Starting a stopped sequencer sets EN; its fields already hold the start position ((I4) of 10_state.md R38). A tick in
the cycle of the start does nothing, because EN was 0. -/
theorem step_start {s : State} (hcfg : s.cfg.Admitted) (hclear : s.StoppedIsCleared) (hen : s.en = false)
    (hrst : s.nextInput.rst = false) (hstart : s.nextInput.presentsStart) :
    ∃ t, step s = .next t ∧ AwaitsFirstTick s t ∧ t.inputs = s.inputs.tail := by
  obtain ⟨hreq, hdec, hbit⟩ := hstart
  obtain ⟨hslice, hdir, hcnt, hmatch, hpwm⟩ := hclear hen
  refine ⟨s.takeInput.start.writeReply, ?_, ⟨rfl, rfl, hslice, hdir, hcnt, hmatch, hpwm, rfl, rfl⟩, rfl⟩
  rw [step_txn hcfg hrst hreq, State.afterSeqPhase_of_stopped hen, hdec, exec_ctrlWr_start hbit]

/-- A quiet cycle keeps the wait for the first tick. -/
theorem AwaitsFirstTick.step {s t : State} (h : AwaitsFirstTick s t) (hcfg : s.cfg.Admitted)
    (hrst : t.nextInput.rst = false) (htick : t.nextInput.tickEn = false) (hstop : ¬ t.nextInput.presentsStop) :
    ∃ u, Machine.step t = .next u ∧ AwaitsFirstTick s u ∧ u.inputs = t.inputs.tail := by
  obtain ⟨u, hu⟩ := step_goes_on (h.cfg ▸ hcfg)
  have hsame := step_sameSweep h.en hrst hstop hu
  obtain ⟨hinUse, hbuf⟩ := step_keeps_active hu hrst
  rw [State.afterSeqPhase_of_no_tick htick] at hsame hinUse
  have hinUse' : u.inUse = s.inUse := hinUse.trans h.inUse
  rw [KeepsActiveBuffer, hinUse'] at hbuf
  exact ⟨u, hu, ⟨hsame.cfg.trans h.cfg, hsame.en.trans h.en, hsame.slice.trans h.slice, hsame.dir.trans h.dir,
    hsame.cnt.trans h.cnt, hsame.matchReg.trans h.matchReg, hsame.pwmOut.trans h.pwmOut, hinUse',
    hbuf.trans h.active⟩, hsame.inputs⟩

/-- The wait lasts through quiet cycles, by induction on them. -/
theorem AwaitsFirstTick.steps {s t : State} (h : AwaitsFirstTick s t) (hcfg : s.cfg.Admitted)
    {quiet rest : List CycleInput} (hinputs : t.inputs = quiet ++ rest) (hquiet : QuietCycles quiet) :
    ∃ u, Machine.steps quiet.length t = some u ∧ AwaitsFirstTick s u ∧ u.inputs = rest := by
  induction quiet generalizing t with
  | nil => exact ⟨t, rfl, h, hinputs⟩
  | cons inp quiet ih =>
    obtain ⟨⟨hrst, htick, hstop⟩, hquiet⟩ := List.forall_mem_cons.mp hquiet
    have hnext : t.nextInput = inp := by rw [State.nextInput, hinputs]; rfl
    obtain ⟨u, hu, hwait, htail⟩ := h.step hcfg (hnext ▸ hrst) (hnext ▸ htick) (hnext ▸ hstop)
    rw [List.length_cons, steps_succ_of_next hu]
    exact ih hwait (by rw [htail, hinputs]; rfl) hquiet

/-- From slice 0 going up the sweep moves to slice 1, or stays when there is only one slice (R127). -/
theorem advance_slice_start (c : Config) (hr : 1 ≤ c.r) : (advance c 0 .up).1 = if c.r = 1 then 0 else 1 := by
  obtain hone | hmore : c.r = 1 ∨ 0 < c.r - 1 := by omega
  · cases hmode : c.sweepMode <;> simp [advance, hmode, hone]
  · have hne : c.r ≠ 1 := by omega
    cases hmode : c.sweepMode <;> simp [advance, hmode, hne, hmore, hmore.ne]

/-- The first tick after the start is an expiry that outputs slice 0 of the active buffer (R126, R136). -/
theorem AwaitsFirstTick.tick {s t : State} (h : AwaitsFirstTick s t) (hcfg : s.cfg.Admitted)
    (hrst : t.nextInput.rst = false) (htick : t.nextInput.tickEn = true) (hstop : ¬ t.nextInput.presentsStop) :
    ∃ v, Machine.step t = .next v ∧ v.pwmOut = drive s.cfg (s.bufAt s.inUse 0) ∧ v.cnt = 0 ∧
      v.matchReg.toNat = s.cfg.period 0 - 1 ∧ v.slice = if s.cfg.r = 1 then 0 else 1 := by
  obtain ⟨v, hv⟩ := step_goes_on (h.cfg ▸ hcfg)
  have hexp : t.ExpiryEdge := ⟨hrst, h.en, htick, h.cnt.trans h.matchReg.symm⟩
  have hsame := step_sameSweep h.en hrst hstop hv
  have hr := (NumParams.passes_chkR.mp (hcfg.passes .chkR)).1
  rw [State.afterSeqPhase_of_expiry hexp, State.expiry_eq, State.takeInput_cfg, State.takeInput_slice,
    State.takeInput_dir, State.takeInput_inUse, h.cfg, h.slice, h.dir] at hsame
  exact ⟨v, hv, hsame.pwmOut.trans (congrArg (drive s.cfg) (h.bufAt 0)), hsame.cnt,
    (congrArg BitVec.toNat hsame.matchReg).trans (toNat_toCntWidth_period hcfg (Nat.zero_le _)),
    hsame.slice.trans (advance_slice_start s.cfg hr)⟩

/-- Settles O36: the start (`step_start`), the quiet cycles after it (`AwaitsFirstTick.steps`), the first tick
(`AwaitsFirstTick.tick`). -/
theorem firstTickAfterStartOutputsSliceZero : Obligations.FirstTickAfterStartOutputsSliceZero := by
  rintro s first mid tick rest ⟨-, -, hclear, -, -⟩ hcfg hen hinputs hrst hstart hquiet hrstT htick hstopT
  have hfirst : s.nextInput = first := by rw [State.nextInput, hinputs]; rfl
  obtain ⟨t, ht, hwait, htail⟩ := step_start hcfg hclear hen (hfirst ▸ hrst) (hfirst ▸ hstart)
  replace htail : t.inputs = mid ++ tick :: rest := by rw [htail, hinputs]; rfl
  refine ⟨fun j hj => ?_, ?_⟩
  · have hsplit : t.inputs = mid.take j ++ (mid.drop j ++ tick :: rest) := by
      rw [htail, ← List.append_assoc, List.take_append_drop]
    obtain ⟨u, hu, hwaitU, -⟩ := hwait.steps hcfg hsplit fun inp hinp => hquiet inp (List.mem_of_mem_take hinp)
    rw [List.length_take_of_le hj] at hu
    exact ⟨u, (steps_succ_of_next ht).trans hu, hwaitU.en, hwaitU.pwmOut⟩
  · obtain ⟨u, hu, hwaitU, hinputsU⟩ := hwait.steps hcfg htail hquiet
    have hnext : u.nextInput = tick := by rw [State.nextInput, hinputsU]; rfl
    obtain ⟨v, hv, hout⟩ := hwaitU.tick hcfg (hnext ▸ hrstT) (hnext ▸ htick) (hnext ▸ hstopT)
    refine ⟨v, ?_, hout⟩
    rw [steps_succ_of_next ht]
    exact steps_succ_last hu hv

/-! ### Successive expiries (R130, R131) -/

/-- `Advance` in UNI mode (R127). -/
theorem advance_uni {c : Config} (h : c.sweepMode = .uni) (s : BitVec 4) (dir : Dir) :
    advance c s dir = if s.toNat = c.r - 1 then (0, .up, true) else (s + 1, .up, false) := by
  simp only [advance, h]

/-- `Advance` in BIDI mode going up (R127). -/
theorem advance_bidi_up {c : Config} (h : c.sweepMode = .bidi) (s : BitVec 4) :
    advance c s .up =
      if s.toNat < c.r - 1 then (s + 1, .up, false)
      else (if c.r = 1 then 0 else BitVec.ofNat 4 (c.r - 2), .down, true) := by
  simp only [advance, h]

/-- `Advance` in BIDI mode going down (R127). -/
theorem advance_bidi_down {c : Config} (h : c.sweepMode = .bidi) (s : BitVec 4) :
    advance c s .down = if 0 < s.toNat then (s - 1, .down, false) else (if c.r = 1 then 0 else 1, .up, true) := by
  simp only [advance, h]

/-- An expiry keeps the parameters and both buffers. -/
theorem State.expiry_keeps (s : State) : s.expiry.cfg = s.cfg ∧ ∀ b i, s.expiry.bufAt b i = s.bufAt b i := by
  rw [s.expiry_eq]
  exact ⟨rfl, fun _ _ => rfl⟩

/-- So do successive expiries. -/
theorem State.expiries_keep (s : State) (n : Nat) :
    (State.expiry^[n] s).cfg = s.cfg ∧ ∀ b i, (State.expiry^[n] s).bufAt b i = s.bufAt b i := by
  induction n with
  | zero => exact ⟨rfl, fun _ _ => rfl⟩
  | succ n ih =>
    rw [Function.iterate_succ_apply']
    obtain ⟨hcfg, hbuf⟩ := (State.expiry^[n] s).expiry_keeps
    exact ⟨hcfg.trans ih.1, fun b i => (hbuf b i).trans (ih.2 b i)⟩

/-- What an expiry after `n` others puts on the port: the slice its position names, of the buffer active then (R126). -/
theorem State.expiries_pwmOut (s : State) (n : Nat) :
    (State.expiry^[n] s).expiry.pwmOut =
      drive s.cfg (s.bufAt (State.expiry^[n] s).inUse (State.expiry^[n] s).slice.toNat) := by
  obtain ⟨hcfg, hbuf⟩ := s.expiries_keep n
  rw [State.expiry_eq]
  simp only [hcfg, hbuf]

/-- The position after one more expiry (R127). -/
theorem State.expiries_succ (s : State) (n : Nat) :
    (State.expiry^[n + 1] s).slice = (advance s.cfg (State.expiry^[n] s).slice (State.expiry^[n] s).dir).1 ∧
    (State.expiry^[n + 1] s).dir = (advance s.cfg (State.expiry^[n] s).slice (State.expiry^[n] s).dir).2.1 := by
  rw [Function.iterate_succ_apply', State.expiry_eq, (s.expiries_keep n).1]
  exact ⟨rfl, rfl⟩

/-- Counting modulo `k`: one more, or back to 0. -/
theorem succ_mod_eq_ite (n : Nat) {k : Nat} (hk : 0 < k) : (n + 1) % k = if n % k + 1 = k then 0 else n % k + 1 := by
  have hlt := Nat.mod_lt n hk
  rw [← Nat.mod_add_mod]
  split
  next hwrap => rw [hwrap, Nat.mod_self]
  next hgo => exact Nat.mod_eq_of_lt (by omega)

/-- In UNI mode the position after `n` expiries from slice 0 is `n mod R` (R130). -/
theorem State.expiries_slice_uni {s : State} (hr1 : 1 ≤ s.cfg.r) (hr : s.cfg.r ≤ 16) (hmode : s.cfg.sweepMode = .uni)
    (hslice : s.slice = 0) (n : Nat) : (State.expiry^[n] s).slice.toNat = n % s.cfg.r := by
  induction n with
  | zero => simp [hslice]
  | succ n ih =>
    have hlt := Nat.mod_lt n hr1
    rw [(s.expiries_succ n).1, succ_mod_eq_ite n hr1, advance_uni hmode, ih]
    by_cases hlast : n % s.cfg.r = s.cfg.r - 1
    · rw [if_pos hlast, if_pos (by omega)]
      rfl
    · rw [if_neg hlast, if_neg (by omega), slice_succ _ (by omega), ih]

/-- Settles O33: the position after `n` expiries is `n mod R`, and a boundary is the position R-1. -/
theorem uniSequence : Obligations.UniSequence := by
  intro s n hr1 hr hmode hslice _
  have hpos := State.expiries_slice_uni hr1 hr hmode hslice n
  refine ⟨?_, ?_⟩
  · rw [s.expiries_pwmOut, hpos]
  · rw [advance_boundary_iff, State.AtBoundary, (s.expiries_keep n).1, hmode, hpos]

/-- The slice at place `p` of a BIDI period: `p` going up, `2R - 2 - p` going down (R131). -/
def bidiSlice (r p : Nat) : Nat := if p < r then p else 2 * r - 2 - p

/-- Which slice that is, for `omega`. -/
theorem eq_bidiSlice_iff {r p v : Nat} :
    v = bidiSlice r p ↔ (p < r ∧ v = p) ∨ (r ≤ p ∧ v = 2 * r - 2 - p) := by
  unfold bidiSlice
  split <;> omega

/-- The position of a BIDI sweep before expiry number `n` from a start (R131): the slice at place `n mod (2R - 2)`, going
UP at the start and from slice 1 on; slice 0 is reached again going DOWN. -/
structure BidiPosition (r n : Nat) (slice : BitVec 4) (dir : Dir) : Prop where
  slice : slice.toNat = bidiSlice r (n % (2 * r - 2))
  dir : dir = .up ↔ n = 0 ∨ (0 < n % (2 * r - 2) ∧ n % (2 * r - 2) < r)

/-- `Advance` in BIDI mode takes each position to the next (R127, R131). -/
theorem BidiPosition.advance {c : Config} {n : Nat} {slice : BitVec 4} {dir : Dir} (hmode : c.sweepMode = .bidi)
    (hr2 : 2 ≤ c.r) (hr : c.r ≤ 16) (h : BidiPosition c.r n slice dir) :
    BidiPosition c.r (n + 1) (Machine.advance c slice dir).1 (Machine.advance c slice dir).2.1 := by
  obtain ⟨hslice, hdir⟩ := h
  have hlt : n % (2 * c.r - 2) < 2 * c.r - 2 := Nat.mod_lt n (by omega)
  have hzero : n = 0 → n % (2 * c.r - 2) = 0 := by rintro rfl; exact Nat.zero_mod _
  have hnext : (n + 1) % (2 * c.r - 2) = 0 ∧ n % (2 * c.r - 2) + 1 = 2 * c.r - 2 ∨
      (n + 1) % (2 * c.r - 2) = n % (2 * c.r - 2) + 1 ∧ n % (2 * c.r - 2) + 1 < 2 * c.r - 2 := by
    rw [succ_mod_eq_ite n (show 0 < 2 * c.r - 2 by omega)]
    split <;> omega
  rw [eq_bidiSlice_iff] at hslice
  cases dir
  case up =>
    have hup := hdir.mp rfl
    rw [advance_bidi_up hmode]
    by_cases hinside : slice.toNat < c.r - 1
    · rw [if_pos hinside]
      refine ⟨?_, iff_of_true rfl (by omega)⟩
      rw [slice_succ _ (by omega), eq_bidiSlice_iff]
      omega
    · rw [if_neg hinside]
      refine ⟨?_, iff_of_false Dir.noConfusion (by omega)⟩
      rw [slice_turn _ hr, eq_bidiSlice_iff]
      omega
  case down =>
    have hdown := hdir.not.mp Dir.noConfusion
    rw [advance_bidi_down hmode]
    by_cases hinside : 0 < slice.toNat
    · rw [if_pos hinside]
      refine ⟨?_, iff_of_false Dir.noConfusion (by omega)⟩
      rw [slice_pred _ hinside, eq_bidiSlice_iff]
      omega
    · rw [if_neg hinside, if_neg (show c.r ≠ 1 by omega)]
      refine ⟨?_, iff_of_true rfl (by omega)⟩
      rw [eq_bidiSlice_iff, show BitVec.toNat (1 : BitVec 4) = 1 from rfl]
      omega

/-- A position of a BIDI sweep is a boundary when it is slice R-1, or slice 0 but at the start (R131). -/
theorem BidiPosition.boundary_iff {s : State} {n : Nat} (hmode : s.cfg.sweepMode = .bidi) (hr2 : 2 ≤ s.cfg.r)
    (h : BidiPosition s.cfg.r n s.slice s.dir) :
    s.AtBoundary ↔ n % (2 * s.cfg.r - 2) = s.cfg.r - 1 ∨ (n % (2 * s.cfg.r - 2) = 0 ∧ 0 < n) := by
  obtain ⟨hslice, hdir⟩ := h
  have hlt : n % (2 * s.cfg.r - 2) < 2 * s.cfg.r - 2 := Nat.mod_lt n (by omega)
  have hzero : n = 0 → n % (2 * s.cfg.r - 2) = 0 := by rintro rfl; exact Nat.zero_mod _
  rw [eq_bidiSlice_iff] at hslice
  rw [State.AtBoundary, hmode]
  cases hd : s.dir
  case up =>
    have hup := hdir.mp hd
    show s.cfg.r - 1 ≤ s.slice.toNat ↔ _
    omega
  case down =>
    have hdown := hdir.not.mp (by simp [hd])
    show s.slice = 0 ↔ _
    rw [← BitVec.toNat_inj, show BitVec.toNat (0 : BitVec 4) = 0 from rfl]
    omega

/-- Successive expiries from a start in BIDI mode go through the positions of R131. -/
theorem State.expiries_bidiPosition {s : State} (hr2 : 2 ≤ s.cfg.r) (hr : s.cfg.r ≤ 16)
    (hmode : s.cfg.sweepMode = .bidi) (hslice : s.slice = 0) (hdir : s.dir = .up) (n : Nat) :
    BidiPosition s.cfg.r n (State.expiry^[n] s).slice (State.expiry^[n] s).dir := by
  induction n with
  | zero =>
    refine ⟨?_, iff_of_true hdir (.inl rfl)⟩
    rw [Function.iterate_zero_apply, hslice, Nat.zero_mod, eq_bidiSlice_iff]
    exact .inl ⟨by omega, rfl⟩
  | succ n ih =>
    obtain ⟨hslice', hdir'⟩ := s.expiries_succ n
    rw [hslice', hdir']
    exact ih.advance hmode hr2 hr

/-- With one slice successive expiries stay at slice 0 (R127). -/
theorem State.expiries_slice_single {s : State} (hone : s.cfg.r = 1) (hslice : s.slice = 0) (n : Nat) :
    (State.expiry^[n] s).slice = 0 := by
  induction n with
  | zero => exact hslice
  | succ n ih =>
    have hle := advance_slice_le s.cfg (State.expiry^[n] s).slice (State.expiry^[n] s).dir (by omega) (by omega)
      (by rw [ih]; exact Nat.zero_le _)
    rw [(s.expiries_succ n).1]
    exact BitVec.eq_of_toNat_eq (Nat.le_zero.mp (by rwa [hone] at hle))

/-- Settles O34: from two slices on by the positions of R131; with one slice both reversals are at slice 0. -/
theorem bidiSequence : Obligations.BidiSequence := by
  intro s n hr hmode hslice hdir
  have hcfg := (s.expiries_keep n).1
  refine ⟨fun hr2 => ⟨?_, ?_⟩, fun hone => ⟨?_, ?_⟩⟩
  · rw [s.expiries_pwmOut, (State.expiries_bidiPosition hr2 hr hmode hslice hdir n).slice, bidiSlice]
  · have hpos := State.expiries_bidiPosition hr2 hr hmode hslice hdir n
    rw [← hcfg] at hpos hr2 hmode
    rw [advance_boundary_iff, hpos.boundary_iff hmode hr2, hcfg]
  · rw [s.expiries_pwmOut, State.expiries_slice_single hone hslice]
    rfl
  · rw [advance_boundary_iff, State.AtBoundary, hcfg, hmode, hone, State.expiries_slice_single hone hslice]
    cases (State.expiry^[n] s).dir
    · exact Nat.zero_le _
    · rfl

/-! ### Reading the sequencer (R138 to R142) -/

/-- CTRL is EN, zero-extended (10_state.md R39). -/
theorem ctrlWord_eq_ofNat (s : State) : s.ctrlWord = BitVec.ofNat 32 s.en.toNat := by
  rw [State.ctrlWord]
  cases s.en <;> rfl

/-- SEQ field by field: the slice index, the direction, and zeros (10_state.md R47). -/
theorem seqWord_fields (s : State) :
    s.seqWord.extractLsb' 0 4 = s.slice ∧ s.seqWord.getLsbD 4 = decide (s.dir = .down) ∧
      ∀ j, 5 ≤ j → s.seqWord.getLsbD j = false := by
  refine ⟨?_, ?_, fun j hj => ?_⟩
  · refine BitVec.eq_of_getLsbD_eq fun j hj => ?_
    have hj32 : j < 32 := by omega
    rw [BitVec.getLsbD_extractLsb', State.seqWord, BitVec.getLsbD_setWidth, BitVec.getLsbD_append, Nat.zero_add,
      if_pos hj]
    simp [hj, hj32]
  · rw [State.seqWord, BitVec.getLsbD_setWidth, BitVec.getLsbD_append]
    cases s.dir <;> rfl
  · rw [State.seqWord, BitVec.getLsbD_setWidth, BitVec.getLsbD_of_ge _ _ hj, Bool.and_false]

/-- Settles O28: each register by its slot, and the one value it answers. -/
theorem sequencerReads : Obligations.SequencerReads := by
  intro s d
  have hctrl : exec .ctrlRd s = .next (s.readReply (BitVec.ofNat 32 s.en.toNat)) := by
    rw [← ctrlWord_eq_ofNat]
    rfl
  exact ⟨⟨decode_read _ d, hctrl⟩, ⟨decode_read _ d, s.seqWord, rfl, seqWord_fields s⟩, ⟨decode_read _ d, rfl⟩,
    ⟨decode_read _ d, rfl⟩, decode_read _ d, rfl⟩

end Sys2Proof.Machine

/-! ### The windows of the indexed registers, read and written (30_encoding.md R75, R76) -/

namespace Sys2Proof

/-- A write in the INTENSITY window decodes as INT_WR (R76). -/
theorem decode_intWr {a : Addr} (hwin : a &&& 0xF80 = 0x080) (d : Data) :
    decode (txnWord true a d) = .intWr (a.extractLsb' 2 5) d := by
  -- `decode_write` asks for three single registers, then for the INTENSITY window.
  rw [decode_write]
  iterate 3 rw [if_neg (and_0xFFC_ne_of_window hwin (by decide))]
  rw [if_pos hwin]

/-- A read in the INTENSITY window decodes as INT_RD (R76). -/
theorem decode_intRd {a : Addr} (hwin : a &&& 0xF80 = 0x080) (d : Data) :
    decode (txnWord false a d) = .intRd (a.extractLsb' 2 5) := by
  -- `decode_read` asks for eleven single registers, then for the INTENSITY window.
  rw [decode_read]
  iterate 11 rw [if_neg (and_0xFFC_ne_of_window hwin (by decide))]
  rw [if_pos hwin]

/-- A read in the PINMASK window decodes as PINMASK_RD (R76). -/
theorem decode_pinmaskRd {a : Addr} (hwin : a &&& 0xF80 = 0x200) (d : Data) :
    decode (txnWord false a d) = .pinmaskRd (a.extractLsb' 2 5) := by
  -- `decode_read` asks for eleven single registers, then for the INTENSITY and BUF windows.
  rw [decode_read]
  iterate 11 rw [if_neg (and_0xFFC_ne_of_window hwin (by decide))]
  rw [hwin]
  iterate 2 rw [if_neg (by decide)]
  rw [if_pos rfl]

/-! ### The checks that bound the configuration words (00_scope.md R21) -/

/-- CHK_PORT in arithmetic. -/
theorem NumParams.passes_chkPort {p : NumParams} :
    p.passes .chkPort = true ↔ 1 ≤ p.portWidth ∧ p.portWidth ≤ 32 := by
  simp [NumParams.passes]

/-- CHK_N in arithmetic. -/
theorem NumParams.passes_chkN {p : NumParams} : p.passes .chkN = true ↔ 1 ≤ p.n ∧ p.n ≤ p.portWidth := by
  simp [NumParams.passes]

/-- CHK_MIN_EXP in arithmetic. -/
theorem NumParams.passes_chkMinExp {p : NumParams} : p.passes .chkMinExp = true ↔ p.minExp ≤ 31 := by
  simp [NumParams.passes]

/-- CHK_FLOOR in arithmetic. -/
theorem NumParams.passes_chkFloor {p : NumParams} :
    p.passes .chkFloor = true ↔ 1 ≤ p.periodFloor ∧ p.periodFloor ≤ 2 ^ 32 - 1 := by
  simp [NumParams.passes]

/-- CHK_SHIFT in arithmetic. -/
theorem NumParams.passes_chkShift {p : NumParams} : p.passes .chkShift = true ↔ p.lutShift ≤ 15 := by
  simp [NumParams.passes]

/-- The mask of a channel of an admitted configuration fits a data word (CHK_PORT, CHK_PINS). -/
theorem NumParams.Admitted.pinMaskNat_lt {p : NumParams} (h : p.Admitted) {c : Nat} (hc : c < p.n) :
    p.pinMaskNat c < 2 ^ 32 := by
  obtain ⟨-, hport⟩ := NumParams.passes_chkPort.mp (h.passes .chkPort)
  obtain ⟨hmask, -⟩ := NumParams.passes_chkPins.mp (h.passes .chkPins)
  exact (hmask c hc).2.trans_le (Nat.pow_le_pow_right (by decide) hport)

/-- Fields that stand side by side in a word add up. -/
theorem toNat_append_eq_add {v w : Nat} (x : BitVec v) (y : BitVec w) :
    (x ++ y).toNat = 2 ^ w * x.toNat + y.toNat := by
  rw [BitVec.toNat_append, ← Nat.shiftLeft_add_eq_or_of_lt y.isLt, Nat.shiftLeft_eq, Nat.mul_comm]

end Sys2Proof

namespace Sys2Proof.Machine

/-! ### Configuration read-back (44_register_access.md R147 to R150) -/

/-- CONFIG0 as a sum of its fields, which fit their places by the checks of R21 (10_state.md R44). -/
theorem toNat_config0Word {c : Config} (h : c.Admitted) :
    (config0Word c).toNat = c.r + 2 ^ 8 * c.n + 2 ^ 16 * c.minExp + 2 ^ 24 * c.sweepMode.code
      + 2 ^ 25 * c.swapPolicy.code + 2 ^ 27 * c.activeLow.toNat + 2 ^ 28 * c.lutShift := by
  have hr := NumParams.passes_chkR.mp (h.passes .chkR)
  have hport := NumParams.passes_chkPort.mp (h.passes .chkPort)
  have hn := NumParams.passes_chkN.mp (h.passes .chkN)
  have hexp := NumParams.passes_chkMinExp.mp (h.passes .chkMinExp)
  have hshift := NumParams.passes_chkShift.mp (h.passes .chkShift)
  have hmode : c.sweepMode.code < 2 := by cases c.sweepMode <;> decide
  have hpolicy : c.swapPolicy.code < 4 := by cases c.swapPolicy <;> decide
  simp only [config0Word, toNat_append_eq_add, BitVec.toNat_ofNat, BitVec.toNat_ofBool]
  omega

/-- CONFIG1 as a sum of its fields (10_state.md R45). -/
theorem toNat_config1Word {c : Config} (h : c.Admitted) :
    (config1Word c).toNat = c.portWidth + 2 ^ 8 * c.cntWidth := by
  have hport := NumParams.passes_chkPort.mp (h.passes .chkPort)
  have hcnt := h.pmax_le.2
  simp only [config1Word, toNat_append_eq_add, BitVec.toNat_ofNat]
  omega

/-- CONFIG2 is PERIOD_FLOOR (10_state.md R46). -/
theorem toNat_config2Word {c : Config} (h : c.Admitted) : (config2Word c).toNat = c.periodFloor := by
  have hfloor := NumParams.passes_chkFloor.mp (h.passes .chkFloor)
  rw [config2Word, BitVec.toNat_ofNat]
  omega

/-- Settles O39: each word by its slot, and as the sum of its fields. -/
theorem configWordsReadBack : Obligations.ConfigWordsReadBack := by
  intro s d h
  refine ⟨⟨decode_read _ d, config0Word s.cfg, rfl, ?_⟩,
    ⟨decode_read _ d, config1Word s.cfg, rfl, toNat_config1Word h⟩,
    decode_read _ d, config2Word s.cfg, rfl, toNat_config2Word h⟩
  rw [toNat_config0Word h]
  cases s.cfg.sweepMode <;> cases s.cfg.swapPolicy <;> rfl

/-- The word PINMASK_RD answers: the mask of an existing channel, which fits, else 0 (R150). -/
theorem toNat_pinMaskWord {c : Config} (h : c.Admitted) (ch : BitVec 5) :
    (pinMaskWord c ch).toNat = if ch.toNat < c.n then c.pinMaskNat ch.toNat else 0 := by
  unfold pinMaskWord
  split
  next hch => exact Nat.mod_eq_of_lt (h.pinMaskNat_lt hch)
  next => rfl

/-- Settles O40: the PINMASK window, and the mask as a number. -/
theorem pinMaskReadsBack : Obligations.PinMaskReadsBack := by
  refine fun s c d h => ⟨?_, pinMaskWord s.cfg c, rfl, toNat_pinMaskWord h c⟩
  rw [decode_pinmaskRd (windowWord_and_0xF80 (by decide) c), windowWord_index (by decide)]

/-! ### Staging (44_register_access.md R144, R145) -/

/-- A write of a staged intensity changes no other field (R144). -/
theorem State.setIntensity_frame (s : State) (c : Nat) (v : Intensity) :
    s.setIntensity c v = { s with intensity := (s.setIntensity c v).intensity } := by
  ext1 <;> simp

/-- A write of a channel that does not exist is ignored (R144). -/
theorem State.setIntensity_of_le {s : State} {c : Nat} (hc : s.cfg.n ≤ c) (v : Intensity) :
    s.setIntensity c v = s := by
  rw [State.setIntensity, if_neg (Nat.not_lt.mpr hc)]

/-- Settles O37: the INTENSITY window, and the two cases of the write. -/
theorem intensityWriteStages : Obligations.IntensityWriteStages := by
  refine fun s c d => ⟨?_, fun hc ⟨hlen, _, _⟩ => ⟨_, exec_intWr c d s, fun j => ?_, ?_⟩, fun hc => ?_⟩
  · rw [decode_intWr (windowWord_and_0xF80 (by decide) c), windowWord_index (by decide)]
  · rw [← dataLow16_eq_extractLsb']
    exact s.setIntensity_at c.toNat (dataLow16 d) hc hlen j
  · exact congrArg State.writeReply (s.setIntensity_frame c.toNat (dataLow16 d))
  · rw [exec_intWr, State.setIntensity_of_le hc]
    rfl

/-- INT_RD answers the read value of INTENSITY[c] (R145). -/
theorem exec_intRd (c : BitVec 5) (s : State) : exec (.intRd c) s = .next (s.readReply (s.intensityWord c)) := rfl

@[simp] theorem State.writeReply_intensityWord (s : State) (c : BitVec 5) :
    s.writeReply.intensityWord c = s.intensityWord c := rfl

/-- INTENSITY[c] after a write of channel `c`: the value written when the channel exists, else 0 (R144, R145). -/
theorem State.setIntensity_intensityWord (s : State) (c : BitVec 5) (v : Intensity)
    (hlen : s.intensity.length = s.cfg.n) :
    (s.setIntensity c.toNat v).intensityWord c = if c.toNat < s.cfg.n then zext32 v else 0 := by
  rw [State.intensityWord, State.setIntensity_cfg]
  split
  next hc => rw [s.setIntensity_at _ v hc hlen, if_pos rfl]
  next => rfl

/-- D[15:0] as a number. -/
theorem toNat_dataLow16 (d : Data) : (dataLow16 d).toNat = d.toNat % 65536 := BitVec.toNat_setWidth 16 d

/-- Settles O38: the INTENSITY window, the staged value, and the value of a write of the same channel read back. -/
theorem intensityReadsBack : Obligations.IntensityReadsBack := by
  refine fun s c d => ⟨?_, ?_, fun t ⟨hlen, _, _⟩ ht => ?_⟩
  · rw [decode_intRd (windowWord_and_0xF80 (by decide) c), windowWord_index (by decide)]
  · rw [← zext32_eq_ofNat]
    rfl
  · obtain rfl := Host.Outcome.next.inj ((exec_intWr c d s).symm.trans ht)
    rw [exec_intRd, State.writeReply_intensityWord, s.setIntensity_intensityWord c _ hlen, zext32_eq_ofNat,
      toNat_dataLow16]
    rfl

/-! ### The reserved forms (44_register_access.md R151, R152) -/

/-- Settles O41: the reserved slots of each direction decode to the reserved forms, whose bus phase only answers. -/
theorem reservedFormsDoNothing : Obligations.ReservedFormsDoNothing :=
  fun _ _ d => ⟨fun h => decode_of_isReservedRead h d, fun h => decode_of_isReservedWrite h d, rfl, rfl⟩

end Sys2Proof.Machine

namespace Sys2Proof.Machine

/-! ### Reset cycles (70_reset_and_hazards.md R173) -/

/-- A reset cycle of an admitted configuration only resets, whatever else it carries. -/
theorem step_reset {s : State} (hcfg : s.cfg.Admitted) (hrst : s.nextInput.rst = true) :
    step s = .next s.takeInput.resetCycle := by
  rw [step_of_admitted hcfg, State.clockEdge_reset hrst]

/-- A second reset cycle only takes its inputs. -/
theorem State.resetCycle_takeInput_resetCycle (s : State) :
    s.resetCycle.takeInput.resetCycle = { s.resetCycle with inputs := s.resetCycle.inputs.tail } := rfl

/-- Settles O43: a reset cycle leads to RESET_STATE of the same configuration, which the next step resets again. -/
theorem resetCycleFromAnyState : Obligations.ResetCycleFromAnyState := by
  intro s hcfg hrst
  refine ⟨s.takeInput.resetCycle, step_reset hcfg hrst, rfl, fun hagain => ?_⟩
  rw [step_reset (s := s.takeInput.resetCycle) hcfg hagain, State.resetCycle_takeInput_resetCycle]

/-! ### Which cycles end with `ready = 0` (R185) -/

/-- Every transaction but FLIP completes. -/
theorem exec_ready_of_ne_flip {i : Instr} {s t : State} (hi : i ≠ .flip) (h : exec i s = .next t) : t.ready = true := by
  cases i
  case flip => exact absurd rfl hi
  all_goals
    obtain rfl := Host.Outcome.next.inj h
    rfl

/-- A FLIP completes, or it is held: under WAIT, while a swap is pending (42_swap.md R113). -/
theorem exec_flip_ready_cases {s t : State} (h : exec .flip s = .next t) :
    (s.cfg.swapPolicy = .wait ∧ s.pending = true ∧ t = s.holdReply) ∨
    (¬ (s.cfg.swapPolicy = .wait ∧ s.pending = true) ∧ t.ready = true) := by
  obtain hheld | ⟨hp, -, rfl⟩ | ⟨hacts, heff⟩ := exec_flip_cases h
  · exact .inl hheld
  · exact .inr ⟨by simp [hp], rfl⟩
  · exact .inr ⟨fun ⟨hp, hpend⟩ => by simp [hacts (.inr hp)] at hpend, heff.ready⟩

/-- The next clock edge presents a FLIP under WAIT while a swap is pending after the sequencer phase. -/
abbrev State.FlipWaits (s : State) : Prop :=
  s.nextInput.presentsFlip ∧ s.cfg.swapPolicy = .wait ∧ s.afterSeqPhase.pending = true

/-- A step without reset holds the waiting FLIP, and otherwise completes (20_memory.md R64 to R66). -/
theorem step_ready_cases {s t : State} (h : step s = .next t) (hrst : s.nextInput.rst = false) :
    (s.FlipWaits ∧ t = s.afterSeqPhase.holdReply) ∨ (¬ s.FlipWaits ∧ t.ready = true) := by
  by_cases hflip : s.nextInput.presentsFlip
  · have hexec := (step_presentsFlip (step_next h).1 hrst hflip).symm.trans h
    have hcases := exec_flip_ready_cases hexec
    rw [State.seqPhase_cfg, State.takeInput_cfg] at hcases
    obtain ⟨hp, hpend, rfl⟩ | ⟨hnot, hready⟩ := hcases
    · exact .inl ⟨⟨hflip, hp, hpend⟩, rfl⟩
    · exact .inr ⟨fun hwaits => hnot hwaits.2, hready⟩
  · refine .inr ⟨fun hwaits => hflip hwaits.1, ?_⟩
    obtain rfl | ⟨hreq, hexec⟩ := step_cases h hrst
    · rfl
    · exact exec_ready_of_ne_flip (fun hdec => hflip ⟨hreq, hdec⟩) hexec

/-- Settles O51: a reset cycle answers `ready = 0`, and without reset only the waiting FLIP does (`step_ready_cases`). -/
theorem onlyWaitFlipAndResetHold : Obligations.OnlyWaitFlipAndResetHold := by
  intro s t h
  dsimp only
  rw [← State.pending_eq_true]
  cases hrst : s.nextInput.rst
  case true =>
    obtain rfl := Host.Outcome.next.inj ((step_reset (step_next h).1 hrst).symm.trans h)
    exact ⟨iff_of_true rfl (.inl rfl), fun _ hfalse => by cases hfalse⟩
  case false =>
    obtain ⟨hwaits, rfl⟩ | ⟨hnot, hready⟩ := step_ready_cases h hrst
    · exact ⟨iff_of_true rfl (.inr hwaits), fun _ _ => rfl⟩
    · rw [hready]
      exact ⟨iff_of_false (by decide) (not_or.mpr ⟨by decide, hnot⟩), fun hfalse => by cases hfalse⟩

end Sys2Proof.Machine

/-! ### The canonical word of a transaction decodes to it (30_encoding.md R73 to R76) -/

namespace Sys2Proof

/-- The address of word `k` of a window is `base + 4k`: a window's base has no bit below A[7] (10_state.md R51 to R54). -/
theorem windowAddr_eq_ofNat {base : Addr} (hbase : base.toNat % 128 = 0) (k : BitVec 5) :
    windowAddr base k = BitVec.ofNat 12 (base.toNat + 4 * k.toNat) := by
  have hk := k.isLt
  have hoffset : ((k ++ 0#2).setWidth 12).toNat = 4 * k.toNat := by
    rw [BitVec.toNat_setWidth, toNat_append_eq_add, BitVec.toNat_ofNat]
    omega
  have hsplit : base.toNat = 2 ^ 7 * (base.toNat / 128) := by omega
  apply BitVec.eq_of_toNat_eq
  rw [windowAddr, BitVec.toNat_or, hoffset, hsplit, ← Nat.two_pow_add_eq_or_of_lt (by omega), ← hsplit,
    BitVec.toNat_ofNat, Nat.mod_eq_of_lt (by have := base.isLt; omega)]

/-- Word `k` of a window lies in that window and carries `k` in A[6:2] (R75). -/
theorem windowAddr_fields {base : Addr} (hbase : base.toNat % 128 = 0) (k : BitVec 5) :
    windowAddr base k &&& 0xF80 = base ∧ (windowAddr base k).extractLsb' 2 5 = k := by
  rw [windowAddr_eq_ofNat hbase]
  exact ⟨by rw [windowWord_and_0xF80 hbase, BitVec.ofNat_toNat, BitVec.setWidth_eq], windowWord_index hbase k⟩

/-- The address of BUFb[i] as the encoder writes it (R75). -/
theorem windowAddr_buffer (b : Bool) (i : BitVec 4) :
    windowAddr 0x100 (BitVec.ofBool b ++ i) = BitVec.ofNat 12 (0x100 + 0x40 * b.toNat + 4 * i.toNat) := by
  rw [windowAddr_eq_ofNat (by decide), toNat_append_eq_add, BitVec.toNat_ofBool]
  exact congrArg (BitVec.ofNat 12) (by rw [show BitVec.toNat (0x100 : Addr) = 0x100 from rfl]; omega)

/-- Settles O2, row by row of R76: the single registers by their slot, the windows by A[11:7] and their index, the reserved
forms by the slots they are kept to. -/
theorem decodeEncodeAgree : Obligations.DecodeEncodeAgree := by
  intro i hwf
  cases i
  case ctrlWr d => exact decode_write 0x000 d
  case lutinWr d => exact decode_write 0x00C d
  case flip => exact decode_write 0x008 1
  case cmdNop d =>
    have hd : d.getLsbD 0 = false := beq_iff_eq.mp hwf
    exact (decode_write 0x008 d).trans (by rw [hd]; rfl)
  case intWr c d =>
    obtain ⟨hwin, hindex⟩ := windowAddr_fields (base := 0x080) (by decide) c
    exact (decode_intWr hwin d).trans (by rw [hindex])
  case intRd c =>
    obtain ⟨hwin, hindex⟩ := windowAddr_fields (base := 0x080) (by decide) c
    exact (decode_intRd hwin 0).trans (by rw [hindex])
  case bufRd b i =>
    obtain ⟨hwin, hbuffer, hslice⟩ := bufferWord_address b i
    rw [← windowAddr_buffer] at hwin hbuffer hslice
    exact (decode_bufRd hwin 0).trans (by rw [hbuffer, hslice])
  case pinmaskRd c =>
    obtain ⟨hwin, hindex⟩ := windowAddr_fields (base := 0x200) (by decide) c
    exact (decode_pinmaskRd hwin 0).trans (by rw [hindex])
  case lutnodeRd k =>
    obtain ⟨hwin, hindex⟩ := windowAddr_fields (base := 0x300) (by decide) k
    exact (decode_lutnodeRd hwin 0).trans (by rw [hindex])
  case rsvRd a => exact decode_of_isReservedRead hwf 0
  case rsvWr a d => exact decode_of_isReservedWrite hwf d
  all_goals exact decode_read _ 0

/-- The number of a transaction's canonical word decodes to it. -/
theorem decodeTableWord_encode (nbits : Nat) {i : Instr} (hwf : i.wellFormed = true) :
    decodeTableWord nbits (encode i).toNat = some i := by
  rw [decodeTableWord, decodeNumber, if_pos (encode i).isLt, BitVec.ofNat_toNat, BitVec.setWidth_eq,
    decodeEncodeAgree i hwf]

/-- Settles O1: each sample word is the canonical word of its transaction. -/
theorem sampleWordsDecode : Obligations.SampleWordsDecode :=
  ⟨decodeTableWord_encode 48 (i := .ctrlWr 1) rfl, decodeTableWord_encode 48 (i := .flip) rfl,
    decodeTableWord_encode 48 (i := .cmdNop 0xFFFFFFFE) rfl, decodeTableWord_encode 48 (i := .intWr 7 0xDEADBEEF) rfl,
    decodeTableWord_encode 48 (i := .bufRd true 7) rfl, decodeTableWord_encode 48 (i := .lutnodeRd 16) rfl,
    decodeTableWord_encode 48 (i := .rsvRd 0x008) rfl, decodeTableWord_encode 48 (i := .rsvWr 0x100 0xFFFFFFFF) rfl⟩

/-! ### What a word decodes to, by its write bit, slot and D[0] (30_encoding.md R76 to R78, R83) -/

/-- The word's write bit says whether it decodes to a transaction that reads (R76). -/
theorem isRead_decode (we : Bool) (a : Addr) (d : Data) : Machine.isRead (decode (txnWord we a d)) = !we := by
  cases we
  · exact isRead_decode_read a d
  · simp only [decode_write, apply_ite Machine.isRead]
    simp only [Machine.isRead, ite_self, Bool.not_true]

/-- The slot of an address is a word slot (20_memory.md R56, R59). -/
theorem isSlot_and_0xFFC (a : Addr) : isSlot (a &&& 0xFFC) = true := by
  rw [isSlot, BitVec.and_assoc]
  exact beq_iff_eq.mpr BitVec.and_zero

/-- The slot of an address, as a number. -/
theorem toNat_and_0xFFC (a : Addr) : (a &&& 0xFFC).toNat = a.toNat / 4 * 4 := by
  have hshift : a &&& (0xFFC : Addr) = a >>> 2 <<< 2 := by rw [BitVec.shiftLeft_ushiftRight]; rfl
  have := a.isLt
  rw [hshift, BitVec.toNat_shiftLeft, BitVec.toNat_ushiftRight, Nat.shiftRight_eq_div_pow, Nat.shiftLeft_eq]
  omega

/-- The addresses of a single register (R62) are the four bytes of its slot. -/
theorem and_0xFFC_eq_iff (a r : Addr) : a &&& 0xFFC = r ↔ a.toNat / 4 * 4 = r.toNat := by
  rw [← BitVec.toNat_inj, toNat_and_0xFFC]

/-- The addresses of a window of 32 words (R62), by their A[11:7] as a number. -/
theorem and_0xF80_eq_iff_div (a base : Addr) : a &&& 0xF80 = base ↔ a.toNat / 128 * 128 = base.toNat := by
  rw [← BitVec.toNat_inj, toNat_and_0xF80]

/-- A write decodes as RSV_WR only at the slots of R77 and R78. -/
theorem isReservedWrite_of_decode {a b : Addr} {d e : Data} (h : decode (txnWord true a d) = .rsvWr b e) :
    b = a &&& 0xFFC ∧ e = d ∧ isReservedWrite b = true := by
  rw [decode_write] at h
  split_ifs at h with hctrl hcmd _ hlut hint
  obtain ⟨rfl, rfl⟩ := Instr.rsvWr.inj h
  refine ⟨rfl, rfl, (isReservedWrite_iff _).mpr ⟨isSlot_and_0xFFC a, ?_⟩⟩
  have hlt := a.isLt
  rw [and_0xFFC_eq_iff] at hctrl hcmd hlut
  rw [and_0xF80_eq_iff_div] at hint
  rw [inReservedRange_iff, and_0xFFC_eq_iff]
  simp only [BitVec.le_def, toNat_and_0xFFC]
  simp only [BitVec.ofNat_eq_ofNat, BitVec.toNat_ofNat, Nat.reducePow, Nat.reduceMod] at hctrl hcmd hlut hint ⊢
  omega

/-- A read decodes as RSV_RD only at the slots of R77 and at CMD (R78). -/
theorem isReservedRead_of_decode {a b : Addr} {d : Data} (h : decode (txnWord false a d) = .rsvRd b) :
    b = a &&& 0xFFC ∧ isReservedRead b = true := by
  simp only [decode_read, ite_eq_iff, reduceCtorEq, and_false, false_or, Instr.rsvRd.injEq] at h
  obtain ⟨_, _, _, _, _, _, _, _, _, _, _, _, _, _, _, rfl⟩ := h
  refine ⟨rfl, (isReservedRead_iff _).mpr ⟨isSlot_and_0xFFC a, ?_⟩⟩
  have hlt := a.isLt
  rw [inReservedRange_iff, and_0xFFC_eq_iff, toNat_and_0xFFC]
  simp only [and_0xFFC_eq_iff, and_0xF80_eq_iff_div] at *
  simp only [BitVec.ofNat_eq_ofNat, BitVec.toNat_ofNat, Nat.reducePow, Nat.reduceMod] at *
  omega

/-- When a word is RSV_RD (R76 to R78). -/
theorem decode_eq_rsvRd_iff {we : Bool} {a b : Addr} {d : Data} :
    decode (txnWord we a d) = .rsvRd b ↔ we = false ∧ b = a &&& 0xFFC ∧ isReservedRead b = true := by
  constructor
  · intro h
    obtain rfl : we = false := by simpa [h, Machine.isRead] using isRead_decode we a d
    exact ⟨rfl, isReservedRead_of_decode h⟩
  · rintro ⟨rfl, rfl, hres⟩
    rw [← decode_slot, decode_of_isReservedRead hres]

/-- When a word is RSV_WR (R76 to R78). -/
theorem decode_eq_rsvWr_iff {we : Bool} {a b : Addr} {d e : Data} :
    decode (txnWord we a d) = .rsvWr b e ↔ we = true ∧ b = a &&& 0xFFC ∧ isReservedWrite b = true ∧ e = d := by
  constructor
  · intro h
    obtain rfl : we = true := by simpa [h, Machine.isRead] using isRead_decode we a d
    obtain ⟨hb, he, hres⟩ := isReservedWrite_of_decode h
    exact ⟨rfl, hb, hres, he⟩
  · rintro ⟨rfl, rfl, hres, rfl⟩
    rw [← decode_slot, decode_of_isReservedWrite hres]

/-- When a word is CMD_NOP (R83). -/
theorem decode_eq_cmdNop_iff {we : Bool} {a : Addr} {d e : Data} :
    decode (txnWord we a d) = .cmdNop e ↔ we = true ∧ a &&& 0xFFC = 0x008 ∧ d.getLsbD 0 = false ∧ e = d := by
  constructor
  · intro h
    obtain rfl : we = true := by simpa [h, Machine.isRead] using isRead_decode we a d
    rw [decode_write] at h
    split_ifs at h with hctrl hcmd hbit
    exact ⟨rfl, hcmd, by simpa using hbit, (Instr.cmdNop.inj h).symm⟩
  · rintro ⟨rfl, hcmd, hbit, rfl⟩
    rw [decode_write, hcmd, if_neg (by decide), if_pos rfl, hbit, if_neg Bool.false_ne_true]

/-- When a word is FLIP (R83). -/
theorem decode_eq_flip_iff {we : Bool} {a : Addr} {d : Data} :
    decode (txnWord we a d) = .flip ↔ we = true ∧ a &&& 0xFFC = 0x008 ∧ d.getLsbD 0 = true := by
  constructor
  · intro h
    obtain rfl : we = true := by simpa [h, Machine.isRead] using isRead_decode we a d
    rw [decode_write] at h
    split_ifs at h with hctrl hcmd hbit
    exact ⟨rfl, hcmd, hbit⟩
  · rintro ⟨rfl, hcmd, hbit⟩
    rw [decode_write, hcmd, if_neg (by decide), if_pos rfl, if_pos hbit]

/-- Every word decodes to a well-formed transaction (R76): only CMD_NOP and the reserved forms have a condition. -/
theorem wellFormed_decode (we : Bool) (a : Addr) (d : Data) : (decode (txnWord we a d)).wellFormed = true := by
  cases hi : decode (txnWord we a d)
  case cmdNop e =>
    obtain ⟨-, -, hbit, rfl⟩ := decode_eq_cmdNop_iff.mp hi
    exact beq_iff_eq.mpr hbit
  case rsvRd b => exact (decode_eq_rsvRd_iff.mp hi).2.2
  case rsvWr b e => exact (decode_eq_rsvWr_iff.mp hi).2.2.1
  all_goals rfl

/-- Settles O3: well-formed by `wellFormed_decode`, and the four forms each by its condition. -/
theorem everyWordDecodesWellFormed : Obligations.EveryWordDecodesWellFormed := by
  refine ⟨fun w => ?_, fun we a d => ⟨fun b => decode_eq_rsvRd_iff, fun b e => decode_eq_rsvWr_iff,
    fun e => decode_eq_cmdNop_iff, decode_eq_flip_iff⟩⟩
  rw [← txnWord_parts w]
  exact wellFormed_decode _ _ _

end Sys2Proof

namespace Sys2Proof.Machine

/-! ### What a transaction and a step answer (20_memory.md R59, 60_exceptions.md R157, R158) -/

/-- Settles O4: the word decodes by its slot (`decode_slot`), and every transaction answers a next state. -/
theorem addressLowBitsIgnored : Obligations.AddressLowBitsIgnored := by
  intro s we a d
  have hdecode := decode_slot we a d
  exact ⟨hdecode.symm, by rw [State.busPhase, State.busPhase, hdecode], exec_next _ s⟩

/-- With a failing check a step is the configuration error that names it (R158). -/
theorem step_of_failure {s : State} {k : ConfigCheck} (h : s.cfg.firstFailure = some k) :
    step s = .fault (.configError k) := by
  rw [step, h]

/-- Settles O47: transactions by `exec_next`, a step by whether its configuration is admitted. -/
theorem onlyConfigErrorStops : Obligations.OnlyConfigErrorStops := by
  refine ⟨exec_next, fun s => ?_⟩
  cases hfail : s.cfg.firstFailure with
  | none =>
    obtain ⟨t, ht⟩ := step_goes_on hfail
    exact ⟨iff_of_true ⟨t, ht⟩ hfail, by simp [ht], by simp [ht]⟩
  | some k => simp [step_of_failure hfail, hfail, eq_comm]

end Sys2Proof.Machine

namespace Sys2Proof.Machine

/-! ### Which transaction writes which field (10_state.md R28) -/

/-- CTRL_WR leaves the parameters, the staging, the swap state, both buffers and the inputs to come alone (R137). -/
theorem exec_ctrlWr_frame {d : Data} {s t : State} (h : exec (.ctrlWr d) s = .next t) :
    t = { s with en := t.en, slice := t.slice, dir := t.dir, cnt := t.cnt, matchReg := t.matchReg, pwmOut := t.pwmOut,
                 ready := true, rdata := 0 } := by
  cases hd : d.getLsbD 0
  · obtain rfl := Host.Outcome.next.inj ((exec_ctrlWr_stop hd s).symm.trans h)
    rfl
  · obtain rfl := Host.Outcome.next.inj ((exec_ctrlWr_start hd s).symm.trans h)
    rfl

/-- No transaction writes the parameters or takes an input. -/
theorem exec_cfg_inputs {i : Instr} {s t : State} (h : exec i s = .next t) : t.cfg = s.cfg ∧ t.inputs = s.inputs := by
  by_cases hi : ∃ d, i = .ctrlWr d
  · obtain ⟨d, rfl⟩ := hi
    rw [exec_ctrlWr_frame h]
    exact ⟨rfl, rfl⟩
  · have hsame := exec_sameSweep (fun d hd => hi ⟨d, hd⟩) h
    exact ⟨hsame.cfg, hsame.inputs⟩

/-- A FLIP writes neither the staged intensities nor LUT_IN (R109). -/
theorem exec_flip_staging {s t : State} (h : exec .flip s = .next t) :
    t.intensity = s.intensity ∧ t.lutIn = s.lutIn := by
  obtain ⟨-, -, rfl⟩ | ⟨-, -, rfl⟩ | ⟨-, heff⟩ := exec_flip_cases h
  · exact ⟨rfl, rfl⟩
  · exact ⟨rfl, rfl⟩
  · rw [heff.frame]
    exact ⟨rfl, rfl⟩

/-- Only INT_WR writes a staged intensity (R29). -/
theorem exec_intensity {i : Instr} {s t : State} (hi : ∀ c d, i ≠ .intWr c d) (h : exec i s = .next t) :
    t.intensity = s.intensity := by
  cases i
  case intWr c d => exact absurd rfl (hi c d)
  case ctrlWr d => rw [exec_ctrlWr_frame h]
  case flip => exact (exec_flip_staging h).1
  all_goals
    obtain rfl := Host.Outcome.next.inj h
    rfl

/-- Only LUTIN_WR writes LUT_IN (R42). -/
theorem exec_lutIn {i : Instr} {s t : State} (hi : ∀ d, i ≠ .lutinWr d) (h : exec i s = .next t) :
    t.lutIn = s.lutIn := by
  cases i
  case lutinWr d => exact absurd rfl (hi d)
  case ctrlWr d => rw [exec_ctrlWr_frame h]
  case intWr c d =>
    obtain rfl := Host.Outcome.next.inj ((exec_intWr c d s).symm.trans h)
    simp
  case flip => exact (exec_flip_staging h).2
  all_goals
    obtain rfl := Host.Outcome.next.inj h
    rfl

/-- Settles O53: each clause says that a transaction other than the named writer leaves the field alone; the sequencer phase
by its frame. -/
theorem everyFieldHasItsWriters : Obligations.EveryFieldHasItsWriters := by
  refine ⟨fun i s t h => ?_, fun s tick => s.seqPhase_frame tick⟩
  obtain ⟨hcfg, hinputs⟩ := exec_cfg_inputs h
  refine ⟨hcfg, hinputs, (exec_keeps_active h).1, fun hne => ?_, fun hne => ?_, fun hne => ?_, fun hne => ?_⟩
  all_goals by_contra hi
  · have hsame := exec_sameSweep (fun d hd => hi ⟨d, hd⟩) h
    simp [hsame.en, hsame.slice, hsame.dir, hsame.cnt, hsame.matchReg, hsame.pwmOut] at hne
  · exact hne (exec_intensity (fun c d hd => hi ⟨c, d, hd⟩) h)
  · have hsame := exec_sameStore hi h
    have hbuf0 : t.buf0 = s.buf0 := hsame.buf false
    have hbuf1 : t.buf1 = s.buf1 := hsame.buf true
    simp [hbuf0, hbuf1, hsame.queued] at hne
  · exact hne (exec_lutIn (fun d hd => hi ⟨d, hd⟩) h)

/-! ### The invariant of R38, in two parts -/

/-- The arrays have their lengths and the slice words touch channel pins only ((I6) of 10_state.md R38). -/
structure State.StoreInv (s : State) : Prop where
  intensity : s.intensity.length = s.cfg.n
  length : ∀ b, (s.buf b).length = s.cfg.r
  pins : ∀ b, ∀ w ∈ s.buf b, OnChannelPins s.cfg w

/-- The sequencer is in range, cleared when stopped, goes up in UNI mode and drives channel pins only ((I1) to (I5) and (I7)
of R38). -/
structure State.SweepInv (s : State) : Prop where
  inRange : s.TimerInRange
  cleared : s.StoppedIsCleared
  uniUp : s.UniGoesUp
  pins : OnChannelPins s.cfg (s.pwmOut ^^^ s.cfg.inactive)

/-- The two parts are the invariant. -/
theorem State.inv_iff (s : State) : s.Inv ↔ s.StoreInv ∧ s.SweepInv := by
  constructor
  · rintro ⟨⟨hint, hlen0, hlen1⟩, hrange, hclear, huni, hpins0, hpins1, hport⟩
    exact ⟨⟨hint, Bool.forall_bool.mpr ⟨hlen0, hlen1⟩, Bool.forall_bool.mpr ⟨hpins0, hpins1⟩⟩,
      hrange, hclear, huni, hport⟩
  · rintro ⟨⟨hint, hlen, hpins⟩, hrange, hclear, huni, hport⟩
    exact ⟨⟨hint, hlen false, hlen true⟩, hrange, hclear, huni, hpins false, hpins true, hport⟩

/-- The word 0 touches no pin. -/
theorem onChannelPins_zero (c : Config) : OnChannelPins c 0 := BitVec.zero_and

/-- The inactive port drives no channel. -/
theorem onChannelPins_inactive (c : Config) : OnChannelPins c (c.inactive ^^^ c.inactive) := by
  rw [BitVec.xor_self]
  exact onChannelPins_zero c

/-- RESET_STATE satisfies the first part (R55). -/
theorem State.resetFor_storeInv (c : Config) : (State.resetFor c).StoreInv where
  intensity := List.length_replicate
  length b := by cases b <;> exact List.length_replicate
  pins b w hw := by
    have hzero : w = 0 := by cases b <;> exact List.eq_of_mem_replicate hw
    rw [hzero]
    exact onChannelPins_zero c

/-- RESET_STATE satisfies the second part (R55). -/
theorem State.resetFor_sweepInv (c : Config) : (State.resetFor c).SweepInv where
  inRange := ⟨Nat.zero_le _, Nat.zero_le _, Nat.zero_le _⟩
  cleared _ := ⟨rfl, rfl, rfl, rfl, rfl⟩
  uniUp _ := rfl
  pins := onChannelPins_inactive c

/-- Settles O45: both parts hold in RESET_STATE of every configuration, the default one included. -/
theorem invariantAtReset : Obligations.InvariantAtReset := by
  have hreset (c : Config) : (State.resetFor c).Inv :=
    (State.inv_iff _).mpr ⟨State.resetFor_storeInv c, State.resetFor_sweepInv c⟩
  exact ⟨hreset, hreset Config.default⟩

/-! ### Each phase of a cycle keeps the two parts -/

/-- The words of a frame touch channel pins only (R99). -/
theorem onChannelPins_encodeFrame (c : Config) (ints : List Intensity) :
    ∀ w ∈ encodeFrame c ints, OnChannelPins c w := by
  intro w hw
  obtain ⟨i, -, rfl⟩ := List.mem_map.mp hw
  exact onChannelPins_sliceWord c ints i

/-- A transaction keeps the lengths and the slice words on channel pins: a FLIP writes a frame, and nothing else writes a
buffer (R116). -/
theorem State.StoreInv.exec {i : Instr} {s t : State} (hinv : s.StoreInv) (h : Machine.exec i s = .next t) :
    t.StoreInv := by
  obtain ⟨hcfg, -⟩ := exec_cfg_inputs h
  have hint : t.intensity.length = s.intensity.length := by
    by_cases hi : ∃ c d, i = .intWr c d
    · obtain ⟨c, d, rfl⟩ := hi
      obtain rfl := Host.Outcome.next.inj ((exec_intWr c d s).symm.trans h)
      rw [State.writeReply_intensity, State.setIntensity_intensity]
      split <;> simp
    · rw [exec_intensity (fun c d hd => hi ⟨c, d, hd⟩) h]
  have hbuf (b : Bool) : t.buf b = s.buf b ∨ t.buf b = encodeFrame s.cfg s.intensity := by
    obtain hsame | ⟨-, -, heff⟩ := exec_store_cases h
    · exact .inl (hsame.buf b)
    · obtain rfl | rfl := Bool.eq_or_eq_not b s.inUse
      · exact .inl heff.active
      · exact .inr heff.free
  refine ⟨?_, fun b => ?_, fun b => ?_⟩
  · rw [hint, hinv.intensity, hcfg]
  · rw [hcfg]
    obtain hb | hb := hbuf b
    · rw [hb, hinv.length]
    · rw [hb, length_encodeFrame]
  · rw [hcfg]
    obtain hb | hb := hbuf b
    · rw [hb]
      exact hinv.pins b
    · rw [hb]
      exact onChannelPins_encodeFrame _ _

/-- The second part depends on the parameters and the fields of the sequencer only. -/
theorem SameSweep.sweepInv {s t : State} (hsame : SameSweep s t) (hinv : s.SweepInv) : t.SweepInv := by
  obtain ⟨hcfg, -, hen, hslice, hdir, hcnt, hmatch, hpwm⟩ := hsame
  obtain ⟨hrange, hclear, huni, hpins⟩ := hinv
  refine ⟨?_, ?_, ?_, ?_⟩
  · rw [State.TimerInRange, hcfg, hslice, hcnt, hmatch]
    exact hrange
  · rw [State.StoppedIsCleared, hcfg, hen, hslice, hdir, hcnt, hmatch, hpwm]
    exact hclear
  · rw [State.UniGoesUp, hcfg, hdir]
    exact huni
  · rw [hcfg, hpwm]
    exact hpins

/-- A transaction keeps the sequencer in its range: a start sets EN alone, a stop clears the sweep and makes the port
inactive, and no other transaction touches the sequencer (R137). -/
theorem State.SweepInv.exec {i : Instr} {s t : State} (hinv : s.SweepInv) (h : Machine.exec i s = .next t) :
    t.SweepInv := by
  by_cases hi : ∃ d, i = .ctrlWr d
  · obtain ⟨d, rfl⟩ := hi
    cases hd : d.getLsbD 0
    · obtain rfl := Host.Outcome.next.inj ((exec_ctrlWr_stop hd s).symm.trans h)
      exact ⟨⟨Nat.zero_le _, Nat.zero_le _, Nat.zero_le _⟩, fun _ => ⟨rfl, rfl, rfl, rfl, rfl⟩, fun _ => rfl,
        onChannelPins_inactive s.cfg⟩
    · obtain rfl := Host.Outcome.next.inj ((exec_ctrlWr_start hd s).symm.trans h)
      exact ⟨hinv.inRange, fun hen => by simp at hen, hinv.uniUp, hinv.pins⟩
  · exact (exec_sameSweep (fun d hd => hi ⟨d, hd⟩) h).sweepInv hinv

/-- The sequencer phase writes no array. -/
theorem State.StoreInv.seqPhase {s : State} (hinv : s.StoreInv) (tick : Bool) : (s.seqPhase tick).StoreInv where
  intensity := by simpa using hinv.intensity
  length := by simpa using hinv.length
  pins := by simpa using hinv.pins

/-- A slice of a buffer, or the 0 read beyond its end, touches channel pins only. -/
theorem State.StoreInv.bufAt {s : State} (hinv : s.StoreInv) (b : Bool) (i : Nat) :
    OnChannelPins s.cfg (s.bufAt b i) := by
  rw [State.bufAt, List.getD_eq_getElem?_getD]
  cases hi : (s.buf b)[i]? with
  | none => exact onChannelPins_zero s.cfg
  | some w => exact hinv.pins b w (List.mem_of_getElem? hi)

/-- An expiry of a running sequencer keeps the sequencer in its range: the next slice is below R, `match` is a period less
one, and the port drives a slice word (R126, R127). -/
theorem State.SweepInv.expiry {s : State} (hstore : s.StoreInv) (hinv : s.SweepInv) (hcfg : s.cfg.Admitted)
    (hen : s.en = true) : s.expiry.SweepInv := by
  obtain ⟨hslice, -, -⟩ := hinv.inRange
  obtain ⟨hr1, hr⟩ := NumParams.passes_chkR.mp (hcfg.passes .chkR)
  rw [State.expiry_eq]
  refine ⟨⟨advance_slice_le _ _ _ hr1 hr hslice, Nat.zero_le _, ?_⟩, fun hstopped => ?_,
    advance_uni_dir s.cfg s.slice s.dir, ?_⟩
  · exact (toCntWidth_toNat_le _ _).trans (Nat.sub_le_sub_right (s.cfg.period_le_pmax hslice) 1)
  · exact absurd (hen.symm.trans hstopped) (by decide)
  · show OnChannelPins s.cfg (drive s.cfg _ ^^^ s.cfg.inactive)
    rw [drive, BitVec.xor_assoc, BitVec.xor_self, BitVec.xor_zero]
    exact hstore.bufAt _ _

/-- A counting tick below `match` keeps the sequencer in its range (R125). -/
theorem State.SweepInv.countTick {s : State} (hinv : s.SweepInv) (hen : s.en = true) (hne : s.cnt ≠ s.matchReg) :
    s.countTick.SweepInv := by
  obtain ⟨hslice, hcnt, hmatch⟩ := hinv.inRange
  have hlt : s.cnt.toNat < s.matchReg.toNat := lt_of_le_of_ne hcnt fun heq => hne (BitVec.eq_of_toNat_eq heq)
  exact ⟨⟨hslice, (toCntWidth_toNat_le _ _).trans hlt, hmatch⟩,
    fun hstopped => absurd (hen.symm.trans hstopped) (by decide), hinv.uniUp, hinv.pins⟩

/-- The sequencer phase keeps the sequencer in its range. -/
theorem State.SweepInv.seqPhase {s : State} (hstore : s.StoreInv) (hinv : s.SweepInv) (hcfg : s.cfg.Admitted)
    (tick : Bool) : (s.seqPhase tick).SweepInv := by
  obtain ⟨hen, -, -, h⟩ | ⟨hen, -, hne, h⟩ | ⟨-, h⟩ := s.seqPhase_cases tick
  · rw [h]
    exact hinv.expiry hstore hcfg hen
  · rw [h]
    exact hinv.countTick hen hne
  · rw [h]
    exact hinv

/-- A transaction keeps the invariant. -/
theorem State.Inv.exec {i : Instr} {s t : State} (hinv : s.Inv) (h : Machine.exec i s = .next t) : t.Inv := by
  rw [State.inv_iff] at hinv ⊢
  exact ⟨hinv.1.exec h, hinv.2.exec h⟩

/-- The sequencer phase keeps the invariant. -/
theorem State.Inv.seqPhase {s : State} (hinv : s.Inv) (hcfg : s.cfg.Admitted) (tick : Bool) : (s.seqPhase tick).Inv := by
  rw [State.inv_iff] at hinv ⊢
  exact ⟨hinv.1.seqPhase tick, hinv.2.seqPhase hinv.1 hcfg tick⟩

/-- Settles O46: a reset cycle leads to RESET_STATE; otherwise the sequencer phase keeps the invariant, and so does the
transaction of the cycle, if there is one. The invariant reads neither the outputs nor the inputs to come. -/
theorem stepKeepsInvariant : Obligations.StepKeepsInvariant := by
  intro s t hinv h
  obtain ⟨hcfg, -⟩ := step_next h
  cases hrst : s.nextInput.rst
  case true =>
    obtain rfl := Host.Outcome.next.inj ((step_reset hcfg hrst).symm.trans h)
    exact ⟨invariantAtReset.1 s.cfg, rfl⟩
  case false =>
    have hinv1 : s.afterSeqPhase.Inv := State.Inv.seqPhase (s := s.takeInput) hinv hcfg s.nextInput.tickEn
    have hcfg1 : s.afterSeqPhase.cfg = s.cfg := State.seqPhase_cfg _ _
    obtain rfl | ⟨-, hexec⟩ := step_cases h hrst
    · exact ⟨hinv1, hcfg1⟩
    · exact ⟨hinv1.exec hexec, (exec_cfg_inputs hexec).1.trans hcfg1⟩

end Sys2Proof.Machine

/-! ### The configuration checks (00_scope.md R21, 60_exceptions.md R158) -/

namespace Sys2Proof

/-- Admitted means that each check passes. -/
theorem NumParams.admitted_iff_passes {p : NumParams} : p.Admitted ↔ ∀ k, p.passes k = true :=
  ⟨fun h => h.passes, NumParams.admitted_of_passes⟩

/-- Settles O49, check by check in the order of R158; CHK_ENUM holds by the types of the enumerated parameters. -/
theorem admittedIffEveryCheckHolds : Obligations.AdmittedIffEveryCheckHolds := by
  intro c
  have hpmax : max (2 ^ c.minExp * 2 ^ (c.r - 1)) c.periodFloor = c.pmax := (c.period_eq _).symm
  simp only [hpmax, ← c.lutSum_eq_div]
  rw [NumParams.admitted_iff_passes, ← NumParams.passes_chkR, ← NumParams.passes_chkPort, ← NumParams.passes_chkN,
    ← NumParams.passes_chkPins, ← NumParams.passes_chkMinExp, ← NumParams.passes_chkFloor, ← NumParams.passes_chkCnt,
    ← NumParams.passes_chkShift, ← NumParams.passes_chkLutRange]
  refine ⟨fun h => ⟨h _, h _, h _, h _, h _, h _, h _, h _, h _, NumParams.passes_chkLutMono.mp (h _)⟩, ?_⟩
  rintro ⟨hr, hport, hn, hpins, hexp, hfloor, hcnt, hshift, hrange, hmono⟩ k
  cases k
  case chkLutMono => exact NumParams.passes_chkLutMono.mpr hmono
  case chkEnum => rfl
  all_goals assumption

/-- The enumerated parameters of a build are in their sets (CHK_ENUM of R21), by their codes (notes/assumptions/6.md). -/
def RawConfig.codesInSets (p : RawConfig) : Bool := p.sweepMode < 2 && p.swapPolicy < 4 && p.activeLow < 2

/-- A check on the parameters of a build: that of the numbers, and for CHK_ENUM the codes. -/
def RawConfig.meets (p : RawConfig) (k : ConfigCheck) : Bool :=
  p.toNumParams.passes k && (k != .chkEnum || p.codesInSets)

/-- A code is in the set of SWEEP_MODE exactly when it names a mode. -/
theorem SweepMode.ofCode?_isSome (n : Nat) : (SweepMode.ofCode? n).isSome = decide (n < 2) := by
  match n with
  | 0 | 1 => rfl
  | n + 2 => simp [SweepMode.ofCode?]

/-- A code is in the set of SWAP_POLICY exactly when it names a policy. -/
theorem SwapPolicy.ofCode?_isSome (n : Nat) : (SwapPolicy.ofCode? n).isSome = decide (n < 4) := by
  match n with
  | 0 | 1 | 2 | 3 => rfl
  | n + 4 => simp [SwapPolicy.ofCode?]

/-- A code is in the set of ACTIVE_LOW exactly when it names a value. -/
theorem activeLowOfCode?_isSome (n : Nat) : (activeLowOfCode? n).isSome = decide (n < 2) := by
  match n with
  | 0 | 1 => rfl
  | n + 2 => simp [activeLowOfCode?]

/-- The codes are in their sets exactly when each names a value. -/
theorem RawConfig.codesInSets_iff (p : RawConfig) :
    p.codesInSets = true ↔ ∃ mode policy low, SweepMode.ofCode? p.sweepMode = some mode ∧
      SwapPolicy.ofCode? p.swapPolicy = some policy ∧ activeLowOfCode? p.activeLow = some low := by
  rw [RawConfig.codesInSets, ← SweepMode.ofCode?_isSome, ← SwapPolicy.ofCode?_isSome, ← activeLowOfCode?_isSome,
    Bool.and_eq_true, Bool.and_eq_true, Option.isSome_iff_exists, Option.isSome_iff_exists, Option.isSome_iff_exists]
  constructor
  · rintro ⟨⟨⟨mode, hmode⟩, policy, hpolicy⟩, low, hlow⟩
    exact ⟨mode, policy, low, hmode, hpolicy, hlow⟩
  · rintro ⟨mode, policy, low, hmode, hpolicy, hlow⟩
    exact ⟨⟨⟨mode, hmode⟩, policy, hpolicy⟩, low, hlow⟩

/-- When the numbers pass every check, a build fails exactly when a code is outside its set, by CHK_ENUM. -/
theorem RawConfig.build_error_of_numbers {p : RawConfig} (h : p.toNumParams.firstFailure = none) (k : ConfigCheck) :
    p.build = .error k ↔ p.codesInSets = false ∧ k = .chkEnum := by
  rw [RawConfig.build, h]
  dsimp only
  split
  next mode policy low hmode hpolicy hlow =>
    have hcodes := p.codesInSets_iff.mpr ⟨mode, policy, low, hmode, hpolicy, hlow⟩
    simp [hcodes]
  next hnone =>
    have hcodes : p.codesInSets = false := by
      rw [← Bool.not_eq_true, p.codesInSets_iff]
      rintro ⟨mode, policy, low, hmode, hpolicy, hlow⟩
      exact hnone mode policy low hmode hpolicy hlow
    simp [hcodes, eq_comm]

/-- The checks on the numbers come first, CHK_ENUM last (R158). -/
theorem RawConfig.find?_not_meets (p : RawConfig) :
    checkOrder.find? (fun k => !p.meets k) =
      p.toNumParams.firstFailure.or (if p.codesInSets then none else some .chkEnum) := by
  have hnumbers : ∀ k ∈ checkOrder.dropLast, (!p.meets k) = !p.toNumParams.passes k := by
    intro k hk
    have hne : (k != .chkEnum) = true := by revert k; decide
    rw [RawConfig.meets, hne, Bool.true_or, Bool.and_true]
  have hsplit : checkOrder = checkOrder.dropLast ++ [.chkEnum] := rfl
  rw [NumParams.firstFailure, hsplit, List.find?_append, List.find?_append, List.find?_congr hnumbers]
  cases hcodes : p.codesInSets <;> simp [RawConfig.meets, NumParams.passes, hcodes]

/-- A build names the first check that fails. -/
theorem RawConfig.build_eq_error_iff (p : RawConfig) (k : ConfigCheck) :
    p.build = .error k ↔ checkOrder.find? (fun j => !p.meets j) = some k := by
  rw [p.find?_not_meets]
  cases hfail : p.toNumParams.firstFailure with
  | none =>
    rw [RawConfig.build_error_of_numbers hfail]
    cases p.codesInSets <;> simp [eq_comm]
  | some j => simp [RawConfig.build, hfail]

/-- Settles O48: the search of the first failing check, with the part of the order before it. -/
theorem buildNamesFirstFailingCheck : Obligations.BuildNamesFirstFailingCheck := by
  intro p k holds
  have hmeets (j : ConfigCheck) : p.meets j = true ↔ holds j := by
    simp only [RawConfig.meets, RawConfig.codesInSets, Bool.and_eq_true, Bool.or_eq_true, bne_iff_ne, decide_eq_true_eq,
      and_assoc, holds, ← imp_iff_not_or, ne_eq]
  rw [p.build_eq_error_iff, List.find?_eq_some_iff_append]
  simp only [Bool.not_not, ← hmeets, Bool.not_eq_true', ← Bool.not_eq_true]
  constructor
  · rintro ⟨hk, pre, post, horder, hpre⟩
    exact ⟨pre, post, horder, hk, hpre⟩
  · rintro ⟨pre, post, horder, hk, hpre⟩
    exact ⟨hk, pre, post, horder, hpre⟩

end Sys2Proof

namespace Sys2Proof.Machine

/-! ### The lanes of a frame and the ticks they get (41_encoder.md R103, R106; 43_sweep.md R133) -/

/-- Settles O15: the channel's part of a slice word is its mask or nothing, by the channel's own intensity. -/
theorem lanesAreIndependent : Obligations.LanesAreIndependent := by
  intro c ints ints' ch i hcfg hch hi hsame w w' hw hw'
  rw [getElem?_encodeFrame, if_pos hi] at hw hw'
  obtain rfl := Option.some.inj hw
  obtain rfl := Option.some.inj hw'
  rw [sliceWord_and_pinMaskAt (hcfg.passes .chkPins) ints i hch,
    sliceWord_and_pinMaskAt (hcfg.passes .chkPins) ints' i hch, hsame]

/-- The mask of a channel of an admitted configuration names a pin (CHK_PINS). -/
theorem pinMaskAt_ne_zero {c : Config} (hcfg : c.Admitted) {ch : Nat} (hch : ch < c.n) : c.pinMaskAt ch ≠ 0 := by
  intro hzero
  have hnat : c.pinMaskNat ch % 2 ^ 32 = 0 := by simpa [NumParams.pinMaskAt] using congrArg BitVec.toNat hzero
  rw [Nat.mod_eq_of_lt (hcfg.pinMaskNat_lt hch)] at hnat
  exact ((NumParams.passes_chkPins.mp (hcfg.passes .chkPins)).1 ch hch).1 hnat

/-- A slice word holds a channel's mask exactly when the bit of the channel's level is set (R100, R101). -/
theorem sliceWord_holds_iff {c : Config} (hcfg : c.Admitted) (ints : List Intensity) (i : Nat) {ch : Nat}
    (hch : ch < c.n) : sliceWord c ints i &&& c.pinMaskAt ch = c.pinMaskAt ch ↔
      (truncatedLevel c (ints.getD ch 0)).testBit i = true := by
  rw [sliceWord_and_pinMaskAt (hcfg.passes .chkPins) ints i hch, channelOn_eq_testBit]
  split
  next hbit => exact iff_of_true rfl hbit
  next hbit => exact iff_of_false (pinMaskAt_ne_zero hcfg hch).symm hbit

/-- The weights `m * 2^i` of the bits set in an `r`-bit number add up to `m` times the number. -/
theorem sum_weights_testBit (m r v : Nat) :
    ((List.range r).map fun i => if v.testBit i then m * 2 ^ i else 0).sum = m * (v % 2 ^ r) := by
  induction r with
  | zero => simp [Nat.mod_one]
  | succ r ih =>
    rw [List.sum_range_succ, ih, Nat.mod_pow_succ, ← Nat.toNat_testBit, Nat.mul_add]
    cases v.testBit r <;> simp

/-- Settles O16: with PERIOD_FLOOR at most M the period of slice `i` is the weight of bit `i` (`periodsAreGeometric`); all R
periods are the weights of the number `2^R - 1`. -/
theorem slicePeriodsAddUpToLevel : Obligations.SlicePeriodsAddUpToLevel := by
  intro c ints ch hcfg hch hfloor
  have hweight (i : Nat) (hi : i ∈ List.range c.r) : c.period i = 2 ^ c.minExp * 2 ^ i :=
    (periodsAreGeometric c i hcfg (List.mem_range.mp hi)).2.2.2.2 hfloor
  have hr := (NumParams.passes_chkR.mp (hcfg.passes .chkR)).2
  constructor
  · have hterm (i : Nat) (hi : i ∈ List.range c.r) :
        (if sliceWord c ints i &&& c.pinMaskAt ch = c.pinMaskAt ch then c.period i else 0) =
          if (truncatedLevel c (ints.getD ch 0)).testBit i then 2 ^ c.minExp * 2 ^ i else 0 := by
      rw [hweight i hi]
      exact if_congr (sliceWord_holds_iff hcfg ints i hch) rfl rfl
    rw [List.map_congr_left hterm, sum_weights_testBit, Nat.mod_eq_of_lt (truncatedLevel_lt hr _)]
  · have hterm (i : Nat) (hi : i ∈ List.range c.r) :
        c.period i = if (2 ^ c.r - 1).testBit i then 2 ^ c.minExp * 2 ^ i else 0 := by
      rw [Nat.testBit_two_pow_sub_one, decide_eq_true (List.mem_range.mp hi), if_pos rfl, hweight i hi]
    rw [List.map_congr_left hterm, sum_weights_testBit, Nat.mod_eq_of_lt (Nat.sub_lt (Nat.two_pow_pos _) Nat.one_pos)]

/-! ### Cycles without a transaction (43_sweep.md R125 to R127) -/

/-- A cycle without reset and without a transaction only answers on σ1 (20_memory.md R64). -/
theorem step_idle {s : State} (hcfg : s.cfg.Admitted) (hrst : s.nextInput.rst = false) (hreq : s.nextInput.req = false) :
    step s = .next s.afterSeqPhase.writeReply := by
  rw [step_of_admitted hcfg, State.clockEdge_idle hrst hreq]

/-- Settles O30: without a tick or stopped, σ1 is the state before; otherwise the tick counts, below `match`, which fits
CNT_WIDTH bits. -/
theorem tickCountsUpToMatch : Obligations.TickCountsUpToMatch := by
  rintro s ⟨-, ⟨-, hle, hmatch⟩, -⟩ hcfg hrst hreq
  rw [step_idle hcfg hrst hreq]
  refine ⟨fun hquiet => ?_, fun hen htick hne => ⟨_, rfl, ?_⟩⟩
  · have hphase : s.afterSeqPhase = s.takeInput :=
      hquiet.elim State.afterSeqPhase_of_stopped State.afterSeqPhase_of_no_tick
    rw [hphase]
    rfl
  · have hlt : s.cnt.toNat < s.matchReg.toNat := lt_of_le_of_ne hle fun heq => hne (BitVec.eq_of_toNat_eq heq)
    have hfits : s.matchReg.toNat < 2 ^ s.cfg.cntWidth := by
      have := hcfg.pmax_le.1
      have : 1 ≤ s.cfg.pmax := s.cfg.period_pos _
      omega
    rw [State.afterSeqPhase_of_count hen htick hne]
    have hcnt : s.takeInput.countTick.cnt.toNat = s.cnt.toNat + 1 :=
      State.countTick_cnt_toNat (s := s.takeInput) hcfg hfits hlt
    refine ⟨hcnt, ?_, rfl⟩
    exact hcnt.trans_le hlt

/-- What an expiry in a cycle without a transaction does (R126 to R128): it reloads the timer for the current slice, outputs
that slice of the active buffer, advances, commits at a boundary, and changes nothing else. -/
structure ExpiryEffect (s t : State) : Prop where
  cnt : t.cnt = 0
  matchReg : t.matchReg.toNat = max (2 ^ s.cfg.minExp * 2 ^ s.slice.toNat) s.cfg.periodFloor - 1
  pwmOut : t.pwmOut = s.bufAt s.inUse s.slice.toNat ^^^ s.cfg.inactive
  slice : t.slice = (advance s.cfg s.slice s.dir).1
  dir : t.dir = (advance s.cfg s.slice s.dir).2.1
  inUse : t.inUse = if (advance s.cfg s.slice s.dir).2.2 then s.queued else s.inUse
  frame : t = { s with cnt := t.cnt, matchReg := t.matchReg, pwmOut := t.pwmOut, slice := t.slice, dir := t.dir,
                       inUse := t.inUse, inputs := s.inputs.tail, ready := true, rdata := 0 }

/-- A step at an expiry edge without a transaction is that effect. -/
theorem step_expiry {s : State} (hcfg : s.cfg.Admitted) (hslice : s.slice.toNat ≤ s.cfg.r - 1) (hexp : s.ExpiryEdge)
    (hreq : s.nextInput.req = false) : ∃ t, step s = .next t ∧ ExpiryEffect s t := by
  have hmatch := toNat_toCntWidth_period hcfg hslice
  rw [s.cfg.period_eq] at hmatch
  refine ⟨_, step_idle hcfg hexp.1 hreq, ?_⟩
  rw [State.afterSeqPhase_of_expiry hexp, State.expiry_eq]
  exact ⟨rfl, by rw [← hmatch, ← s.cfg.period_eq]; rfl, rfl, rfl, rfl, rfl, rfl⟩

/-- The position and the active buffer after an expiry, from what `Advance` answers. -/
theorem ExpiryEffect.of_advance {s t : State} (h : ExpiryEffect s t) {slice : BitVec 4} {dir : Dir} {boundary : Bool}
    (hadv : advance s.cfg s.slice s.dir = (slice, dir, boundary)) :
    t.slice = slice ∧ t.dir = dir ∧ t.inUse = if boundary then s.queued else s.inUse := by
  have hslice := h.slice
  have hdir := h.dir
  have hinUse := h.inUse
  rw [hadv] at hslice hdir hinUse
  exact ⟨hslice, hdir, hinUse⟩

/-- Settles O31: the effect of the expiry, with `Advance` of UNI mode: wrap at slice R-1, else the next slice. -/
theorem expiryInUniMode : Obligations.ExpiryInUniMode := by
  rintro s ⟨-, ⟨hle, -, -⟩, -⟩ hcfg hmode hexp hreq
  obtain ⟨hr1, hr⟩ := NumParams.passes_chkR.mp (hcfg.passes .chkR)
  obtain ⟨t, hstep, heff⟩ := step_expiry hcfg hle hexp hreq
  have hadv := advance_uni hmode s.slice s.dir
  refine ⟨t, hstep, heff.cnt, heff.matchReg, heff.pwmOut, ?_, fun hinside => ?_, fun hlast => ?_, heff.frame⟩
  · rw [heff.dir, advance_uni_dir _ _ _ hmode]
  · rw [if_neg (by omega)] at hadv
    obtain ⟨hslice, -, hinUse⟩ := heff.of_advance hadv
    exact ⟨by rw [hslice, slice_succ _ (by omega)], hinUse⟩
  · rw [if_pos (by omega)] at hadv
    obtain ⟨hslice, -, hinUse⟩ := heff.of_advance hadv
    exact ⟨hslice, hinUse⟩

/-- Settles O32: the effect of the expiry, with `Advance` of BIDI mode: a reversal at slice R-1 going up and at slice 0 going
down, else the next slice in the direction. -/
theorem expiryInBidiMode : Obligations.ExpiryInBidiMode := by
  rintro s ⟨-, ⟨hle, -, -⟩, -⟩ hcfg hmode hexp hreq
  obtain ⟨hr1, hr⟩ := NumParams.passes_chkR.mp (hcfg.passes .chkR)
  obtain ⟨t, hstep, heff⟩ := step_expiry hcfg hle hexp hreq
  have hup (h : s.dir = .up) := (congrArg (advance s.cfg s.slice) h).trans (advance_bidi_up hmode s.slice)
  have hdown (h : s.dir = .down) :=
    (congrArg (advance s.cfg s.slice) h).trans (advance_bidi_down hmode s.slice)
  refine ⟨t, hstep, heff.cnt, heff.matchReg, heff.pwmOut, fun hdir hinside => ?_, fun hdir hlast => ?_,
    fun hdir hinside => ?_, fun hdir hzero => ?_, heff.frame⟩
  · obtain ⟨hslice, hrest⟩ := heff.of_advance ((hup hdir).trans (if_pos (by omega)))
    exact ⟨by rw [hslice, slice_succ _ (by omega)], hrest⟩
  · obtain ⟨hslice, hrest⟩ := heff.of_advance ((hup hdir).trans (if_neg (by omega)))
    exact ⟨by rw [hslice, slice_turn _ hr], hrest⟩
  · obtain ⟨hslice, hrest⟩ := heff.of_advance ((hdown hdir).trans (if_pos hinside))
    exact ⟨by rw [hslice, slice_pred _ hinside], hrest⟩
  · obtain ⟨hslice, hrest⟩ := heff.of_advance ((hdown hdir).trans (if_neg (by rw [hzero]; decide)))
    exact ⟨by rw [hslice]; exact apply_ite BitVec.toNat _ _ _, hrest⟩

/-! ### A FLIP that WAIT holds for good (42_swap.md R113, 70_reset_and_hazards.md R180) -/

/-- WAIT holds a FLIP while a swap is pending (R113). -/
theorem exec_flip_wait {s : State} (hp : s.cfg.swapPolicy = .wait) (hpend : s.queued ≠ s.inUse) :
    exec .flip s = .next s.holdReply := by
  show execFlip s = _
  rw [execFlip, hp]
  exact congrArg Host.Outcome.next (if_pos (State.pending_eq_true.mpr hpend))

/-- A cycle that presents a FLIP under WAIT with a swap pending, stopped or without a tick, changes nothing. -/
theorem step_held {s : State} (hcfg : s.cfg.Admitted) (hp : s.cfg.swapPolicy = .wait) (hpend : s.queued ≠ s.inUse)
    (hrst : s.nextInput.rst = false) (hflip : s.nextInput.presentsFlip)
    (hquiet : s.en = false ∨ s.nextInput.tickEn = false) : step s = .next s.takeInput.holdReply := by
  have hphase : s.afterSeqPhase = s.takeInput :=
    hquiet.elim State.afterSeqPhase_of_stopped State.afterSeqPhase_of_no_tick
  rw [step_presentsFlip hcfg hrst hflip, hphase]
  exact exec_flip_wait (s := s.takeInput) hp hpend

/-- While an input is left, the next one is among the first of them. -/
theorem State.nextInput_mem_take {s : State} (h : 0 < s.inputs.length) (n : Nat) :
    s.nextInput ∈ s.inputs.take (n + 1) := by
  obtain ⟨inp, rest, hinputs⟩ := List.exists_cons_of_length_pos h
  rw [State.nextInput, hinputs]
  exact List.mem_cons_self

/-- Settles O52, by induction on the cycles: each of them only takes its input (`step_held`). -/
theorem waitDeadlock : Obligations.WaitDeadlock := by
  intro s n hcfg hp hpend hlen hheld
  induction n generalizing s with
  | zero =>
    obtain ⟨hrst, hflip, hquiet⟩ := hheld _ (State.nextInput_mem_take hlen 0)
    rw [steps_succ_of_next (step_held hcfg hp hpend hrst hflip hquiet), List.drop_one]
    rfl
  | succ n ih =>
    obtain ⟨hrst, hflip, hquiet⟩ := hheld _ (State.nextInput_mem_take (Nat.zero_lt_of_lt hlen) _)
    have htail : s.inputs.tail.take (n + 1) = (s.inputs.take (n + 2)).tail := (List.tail_take_eq_take_tail _ (n + 2)).symm
    rw [steps_succ_of_next (step_held hcfg hp hpend hrst hflip hquiet), ← List.drop_tail]
    refine ih s.takeInput.holdReply hcfg hp hpend ?_ fun inp hinp => hheld inp ?_
    · exact Nat.lt_of_lt_of_eq (Nat.lt_sub_of_add_lt hlen) List.length_tail.symm
    · exact List.mem_of_mem_tail (htail ▸ hinp)

end Sys2Proof.Machine

namespace Sys2Proof.Machine

/-! ### FLIP by policy (42_swap.md R110, R112, R113) -/

/-- A FLIP that its policy neither holds nor absorbs has its effect. -/
theorem exec_flip_acts {s : State}
    (hacts : s.cfg.swapPolicy = .ignore ∨ s.cfg.swapPolicy = .wait → s.pending = false) :
    ∃ t, exec .flip s = .next t ∧ FlipEffect s t := by
  obtain ⟨t, h⟩ := exec_next .flip s
  exact ⟨t, h, .of_exec h hacts⟩

/-- Under every policy but TOGGLE an acting FLIP requests the free buffer (R110, R111, R113). -/
theorem FlipEffect.queued_of_ne_toggle {s t : State} (h : FlipEffect s t) (hp : s.cfg.swapPolicy ≠ .toggle) :
    t.queued = !s.inUse :=
  h.queued.resolve_right fun ⟨htoggle, _⟩ => hp htoggle

/-- Settles O17: under SUPERSEDE every FLIP acts, and requests. -/
theorem flipUnderSupersede : Obligations.FlipUnderSupersede := by
  intro s hp
  obtain ⟨t, h, heff⟩ := exec_flip_acts (s := s) (by simp [hp])
  exact ⟨t, h, heff.free, heff.active, heff.queued_of_ne_toggle (by simp [hp]), heff.frame⟩

/-- Settles O19: under TOGGLE every FLIP acts, and `queued` becomes `!queued` (`flip_toggle_queued`). -/
theorem flipUnderToggle : Obligations.FlipUnderToggle := by
  intro s hp
  obtain ⟨t, h, heff⟩ := exec_flip_acts (s := s) (by simp [hp])
  obtain ⟨hqueued, -⟩ := flip_toggle_queued hp h
  exact ⟨t, h, heff.free, heff.active, fun hq => by rw [hqueued, hq], fun hq => by rw [hqueued, hq, Bool.not_not],
    heff.frame⟩

/-- Settles O20: under WAIT a FLIP acts, and requests, exactly when no swap is pending; else it is held. -/
theorem flipUnderWait : Obligations.FlipUnderWait := by
  intro s hp
  by_cases hq : s.queued = s.inUse
  · obtain ⟨t, h, heff⟩ := exec_flip_acts (s := s) fun _ => State.pending_eq_false.mpr hq
    exact ⟨t, h, fun _ => ⟨heff.free, heff.active, heff.queued_of_ne_toggle (by simp [hp]), heff.frame⟩,
      fun hne => absurd hq hne⟩
  · exact ⟨s.holdReply, exec_flip_wait hp hq, fun hq' => absurd hq' hq, fun _ => rfl⟩

/-! ### Starting and stopping (43_sweep.md R137) -/

/-- Settles O27: the slot of CTRL, the two cases of D[0], and the write of the current value of EN. -/
theorem controlWriteStartsOrStops : Obligations.ControlWriteStartsOrStops := by
  refine fun s d => ⟨decode_write 0x000 d, fun hd => exec_ctrlWr_start hd s, fun hd => exec_ctrlWr_stop hd s, ?_⟩
  rintro ⟨-, -, hclear, -, -⟩ hd
  exact exec_ctrlWr_current hclear hd

/-! ### A step that presents a transaction (20_memory.md R64, R65) -/

/-- The next input and what taking it leaves, from the list of inputs. -/
theorem State.input_of_cons {s : State} {inp : CycleInput} {rest : List CycleInput} (h : s.inputs = inp :: rest) :
    s.nextInput = inp ∧ s.takeInput = { s with inputs := rest } := by
  rw [State.nextInput, State.takeInput, h]
  exact ⟨rfl, rfl⟩

/-- Settles O42: `step_txn` with the inputs named; a canonical word decodes to its transaction. -/
theorem stepRunsDecodedInstruction : Obligations.StepRunsDecodedInstruction := by
  intro s inp rest hcfg hinputs hrst hreq
  obtain ⟨rfl, htake⟩ := State.input_of_cons hinputs
  have hstep := step_txn hcfg hrst hreq
  rw [State.afterSeqPhase, htake] at hstep
  exact ⟨hstep, fun i hwf hword => by rw [hstep, hword, decodeEncodeAgree i hwf]⟩

/-! ### Registers after reset (10_state.md section 9) -/

/-- The value a read transaction at an address answers (00_scope.md R24). -/
theorem memRead_of_decode {s : State} {a : Addr} {i : Instr} {v : Data} (hdec : decode (txnWord false a 0) = i)
    (hexec : exec i s = .next (s.readReply v)) : s.memRead a = v := by
  rw [State.memRead, State.busPhase, decode_slot, hdec, hexec]
  rfl

/-- A staged intensity reads 0 after reset. -/
theorem intensityWord_resetFor (c : Config) (ch : BitVec 5) : (State.resetFor c).intensityWord ch = 0 := by
  rw [State.intensityWord, State.intensityAt, State.resetFor_intensity, List.getD_eq_getElem?_getD,
    List.getElem?_replicate]
  split_ifs <;> rfl

/-- A slice word reads 0 after reset. -/
theorem bufWord_resetFor (c : Config) (b : Bool) (i : BitVec 4) : (State.resetFor c).bufWord b i = 0 := by
  have hbuf : (State.resetFor c).buf b = List.replicate c.r 0 := by cases b <;> rfl
  rw [State.bufWord, State.bufAt, hbuf, List.getD_eq_getElem?_getD, List.getElem?_replicate]
  split_ifs <;> rfl

/-- STATUS reads 0 after reset. -/
theorem statusWord_resetFor (c : Config) : (State.resetFor c).statusWord = 0 := by
  show ((BitVec.ofBool false ++ BitVec.ofBool false ++ BitVec.ofBool false ++ BitVec.ofBool false).setWidth 32 : Data) = 0
  decide

/-- SEQ reads 0 after reset. -/
theorem seqWord_resetFor (c : Config) : (State.resetFor c).seqWord = 0 := by
  show ((Dir.bit .up ++ (0 : BitVec 4)).setWidth 32 : Data) = 0
  decide

/-- Settles O44: each single register by its slot, and the two windows by A[11:7]. -/
theorem registersAfterReset : Obligations.RegistersAfterReset := by
  intro c hcfg s
  refine ⟨?_, ?_, memRead_of_decode (decode_read 0x02C 0) rfl, ?_⟩
  · simp only [List.forall_mem_cons]
    exact ⟨memRead_of_decode (decode_read 0x000 0) rfl,
      (memRead_of_decode (decode_read 0x004 0) rfl).trans (statusWord_resetFor c),
      memRead_of_decode (decode_read 0x008 0) rfl, memRead_of_decode (decode_read 0x00C 0) rfl,
      (memRead_of_decode (decode_read 0x020 0) rfl).trans (seqWord_resetFor c), memRead_of_decode (decode_read 0x024 0) rfl,
      memRead_of_decode (decode_read 0x028 0) rfl, fun _ h => nomatch h⟩
  · rw [memRead_of_decode (decode_read 0x010 0) rfl, zext32_eq_ofNat, BitVec.toNat_ofNat,
      Nat.mod_eq_of_lt (BitVec.isLt _ |>.trans (by decide))]
    exact (nodeValuesAreBases c hcfg).2
  · rintro a (⟨hlo, hhi⟩ | ⟨hlo, hhi⟩)
    · have hwin : a &&& 0xF80 = 0x080 := (and_0xF80_eq_iff a _).mpr ⟨rfl, hlo, Nat.lt_succ_of_le hhi⟩
      refine memRead_of_decode (decode_intRd hwin 0) ((exec_intRd _ s).trans ?_)
      rw [intensityWord_resetFor]
    · have hwin : a &&& 0xF80 = 0x100 := (and_0xF80_eq_iff a _).mpr ⟨rfl, hlo, Nat.lt_succ_of_le hhi⟩
      refine memRead_of_decode (decode_bufRd hwin 0) ((exec_bufRd _ _ s).trans ?_)
      rw [bufWord_resetFor]

/-! ### The boot sequence (70_reset_and_hazards.md R176) -/

/-- A run in two parts. -/
theorem steps_add {m n : Nat} {s t : State} (h : steps m s = some t) : steps (m + n) s = steps n t := by
  induction m generalizing s with
  | zero =>
    obtain rfl := Option.some.inj h
    rw [Nat.zero_add]
  | succ m ih =>
    obtain ⟨r, hr, hrest⟩ := steps_succ h
    rw [Nat.add_right_comm, steps_succ_of_next hr, ih hrest]

/-- Without a tick the sequencer phase does nothing (R125). -/
theorem State.seqPhase_of_no_tick (s : State) : s.seqPhase false = s := by
  simp [State.seqPhase]

/-- A line with a transaction and no tick is the transaction, on the state with the line taken (R65, R83). -/
theorem step_txnLine {s : State} {i : Instr} {rest : List CycleInput} (hcfg : s.cfg.Admitted) (hwf : i.wellFormed = true)
    (hinputs : s.inputs = (HostLine.txn false i).cycle :: rest) : step s = exec i { s with inputs := rest } := by
  have hword : txnWord (HostLine.txn false i).cycle.we (HostLine.txn false i).cycle.addr (HostLine.txn false i).cycle.wdata
      = encode i := txnWord_presentWord _
  rw [(stepRunsDecodedInstruction s _ rest hcfg hinputs rfl rfl).2 i hwf hword]
  exact congrArg (exec i) (State.seqPhase_of_no_tick _)

/-- Any number of reset lines, at least one, leads to RESET_STATE (R173). -/
theorem steps_resetLines {s : State} {rest : List CycleInput} (hcfg : s.cfg.Admitted) (more : Nat)
    (hinputs : s.inputs = List.replicate (more + 1) (HostLine.reset false).cycle ++ rest) :
    steps (more + 1) s = some { State.resetFor s.cfg with inputs := rest } := by
  induction more generalizing s with
  | zero =>
    obtain ⟨hnext, htake⟩ := State.input_of_cons hinputs
    rw [steps_succ_of_next (step_reset hcfg (hnext ▸ rfl)), htake]
    rfl
  | succ more ih =>
    obtain ⟨hnext, htake⟩ := State.input_of_cons hinputs
    rw [steps_succ_of_next (step_reset hcfg (hnext ▸ rfl)), htake]
    exact ih hcfg rfl

/-- There is one SET line per nonzero intensity. -/
theorem length_setLines (c : Nat) (vs : List Intensity) : (setLines c vs).length = vs.countP (· != 0) := by
  induction vs generalizing c with
  | nil => rfl
  | cons v vs ih =>
    by_cases hv : v = 0
    · subst hv
      rw [setLines_zero, ih, List.countP_cons_of_neg (by decide)]
    · rw [setLines_cons c vs hv, List.length_cons, ih, List.countP_cons_of_pos (by simpa using hv)]

/-- The data of a SET line carries the intensity whole (R153). -/
theorem dataLow16_zext32 (v : Intensity) : dataLow16 (zext32 v) = v := by
  rw [dataLow16, zext32, BitVec.setWidth_setWidth_of_le _ (by decide), BitVec.setWidth_eq]

/-- A SET of an existing channel stages its intensity (R144, R153). -/
theorem step_setLine {s : State} {c : Nat} {v : Intensity} {rest : List CycleInput} (hcfg : s.cfg.Admitted)
    (hc : c < s.cfg.n) (hinputs : s.inputs = (HostLine.set (BitVec.ofNat 5 c) (zext32 v)).cycle :: rest) :
    step s = .next { s with intensity := s.intensity.set c v, ready := true, rdata := 0, inputs := rest } := by
  obtain ⟨-, hn⟩ := NumParams.passes_chkN.mp (hcfg.passes .chkN)
  obtain ⟨-, hport⟩ := NumParams.passes_chkPort.mp (hcfg.passes .chkPort)
  have hindex : (BitVec.ofNat 5 c).toNat = c := by rw [BitVec.toNat_ofNat]; omega
  rw [step_txnLine hcfg rfl hinputs, exec_intWr, hindex, dataLow16_zext32, State.setIntensity]
  exact congrArg (fun t => Host.Outcome.next (State.writeReply t)) (if_pos hc)

/-- The SET lines for the channels from `c` on stage their intensities, where 0 was staged before. -/
theorem steps_setLines {s : State} {pre vs : List Intensity} {rest : List CycleInput} (hcfg : s.cfg.Admitted)
    (hlen : pre.length + vs.length = s.cfg.n) (hint : s.intensity = pre ++ List.replicate vs.length 0)
    (hinputs : s.inputs = (setLines pre.length vs).map HostLine.cycle ++ rest) :
    ∃ ready rdata, steps (setLines pre.length vs).length s =
      some { s with intensity := pre ++ vs, ready := ready, rdata := rdata, inputs := rest } := by
  induction vs generalizing s pre with
  | nil =>
    refine ⟨s.ready, s.rdata, congrArg some ?_⟩
    rw [List.append_nil, ← List.append_nil pre, ← show s.intensity = pre ++ [] from hint,
      ← show s.inputs = rest from hinputs]
  | cons v vs ih =>
    have hnext : pre.length + 1 = (pre ++ [v]).length := by simp
    rw [List.length_cons] at hlen
    by_cases hv : v = 0
    · subst hv
      rw [setLines_zero, hnext] at hinputs ⊢
      rw [List.append_cons pre 0 vs]
      exact ih hcfg (by rw [← hnext]; omega) (hint.trans (List.append_cons _ _ _)) hinputs
    · rw [setLines_cons _ _ hv] at hinputs ⊢
      have hset : s.intensity.set pre.length v = (pre ++ [v]) ++ List.replicate vs.length 0 := by
        rw [hint, List.set_append_right _ _ le_rfl, Nat.sub_self, ← List.append_cons]
        rfl
      rw [List.length_cons, steps_succ_of_next (step_setLine hcfg (by omega) hinputs), hnext, List.append_cons pre v vs]
      exact ih (s := { s with intensity := _, ready := true, rdata := 0, inputs := _ }) hcfg
        (by rw [← hnext]; show _ = s.cfg.n; omega) hset rfl

/-- A FLIP in the swap state of reset acts under every policy: it requests BUF[1] and fills it (R110 to R113). -/
theorem exec_flip_of_reset {s : State} (hinUse : s.inUse = false) (hqueued : s.queued = false) :
    exec .flip s = .next
      { s with buf1 := encodeFrame s.cfg s.intensity, queued := true, ready := true, rdata := 0 } := by
  obtain ⟨t, h, heff⟩ := exec_flip_acts (s := s) fun _ => State.pending_eq_false.mpr (hqueued.trans hinUse.symm)
  obtain ⟨hfree, hactive, hq, hframe⟩ := heff
  rw [hinUse] at hfree hactive hq
  rw [hqueued] at hq
  have hbuf0 : t.buf0 = s.buf0 := hactive
  have hbuf1 : t.buf1 = encodeFrame s.cfg s.intensity := hfree
  have hq' : t.queued = true := hq.elim id And.right
  rw [h, hframe, hbuf0, hbuf1, hq']

/-- The last two lines of the boot sequence, in either order (R176). -/
def flipAndStartLines (startFirst : Bool) : List HostLine := if startFirst then [.start, .pwmFlip] else [.pwmFlip, .start]

/-- The boot sequence in its three parts (R176). -/
theorem bootLines_eq (more : Nat) (startFirst : Bool) (ints : List Intensity) :
    bootLines more startFirst ints =
      List.replicate (more + 1) (.reset false) ++ (setLines 0 ints ++ flipAndStartLines startFirst) := rfl

/-- There are two of them. -/
theorem length_flipAndStartLines (startFirst : Bool) : (flipAndStartLines startFirst).length = 2 := by
  cases startFirst <;> rfl

/-- PWM_FLIP and START, in either order, from the swap state of reset (R176). -/
theorem steps_flipAndStart {s : State} {rest : List CycleInput} (startFirst : Bool) (hcfg : s.cfg.Admitted)
    (hinUse : s.inUse = false) (hqueued : s.queued = false)
    (hinputs : s.inputs = (flipAndStartLines startFirst).map HostLine.cycle ++ rest) :
    steps 2 s = some { s with
      en := true, buf1 := encodeFrame s.cfg s.intensity, queued := true, ready := true, rdata := 0, inputs := rest } := by
  have hstart (t : State) : exec (.ctrlWr 1) t = .next t.start.writeReply := exec_ctrlWr_start (by decide) t
  cases startFirst
  case false =>
    have hfirst := (step_txnLine hcfg rfl hinputs).trans (exec_flip_of_reset hinUse hqueued)
    have hsecond := (step_txnLine (s := { s with
      buf1 := encodeFrame s.cfg s.intensity, queued := true, ready := true, rdata := 0,
      inputs := HostLine.start.cycle :: rest }) hcfg rfl rfl).trans (hstart _)
    exact (steps_succ_of_next hfirst).trans (steps_succ_of_next hsecond)
  case true =>
    have hfirst := (step_txnLine hcfg rfl hinputs).trans (hstart _)
    have hsecond := (step_txnLine (s := { s with
      en := true, ready := true, rdata := 0,
      inputs := HostLine.pwmFlip.cycle :: rest }) hcfg rfl rfl).trans (exec_flip_of_reset hinUse hqueued)
    exact (steps_succ_of_next hfirst).trans (steps_succ_of_next hsecond)

/-- Settles O54: the reset lines (`steps_resetLines`), the SET lines (`steps_setLines`), then PWM_FLIP and START
(`steps_flipAndStart`). -/
theorem bootStagesFirstFrame : Obligations.BootStagesFirstFrame := by
  intro s more startFirst ints rest hcfg hlen hinputs
  have hlength : (bootLines more startFirst ints).length = more + 1 + ((setLines 0 ints).length + 2) := by
    rw [bootLines_eq, List.length_append, List.length_append, List.length_replicate, length_flipAndStartLines]
  refine ⟨by rw [hlength, length_setLines, Nat.add_assoc (more + 1)], ?_⟩
  rw [bootLines_eq, List.map_append, List.map_append, List.map_replicate, List.append_assoc, List.append_assoc] at hinputs
  have hint : List.replicate s.cfg.n 0 = [] ++ List.replicate ints.length (0 : Intensity) := by
    rw [hlen, List.nil_append]
  have hresets := steps_resetLines hcfg more hinputs
  obtain ⟨ready, rdata, hsets⟩ := steps_setLines (s := { State.resetFor s.cfg with inputs := _ }) (pre := [])
    (rest := (flipAndStartLines startFirst).map HostLine.cycle ++ rest)
    hcfg ((Nat.zero_add _).trans hlen) hint rfl
  rw [hlength]
  exact (steps_add hresets).trans ((steps_add hsets).trans (steps_flipAndStart startFirst hcfg rfl rfl rfl))

end Sys2Proof.Machine
